-- ==== Sys2Proof/Word.lean ====
section
/-! DEFINITION. The byte and text types of the model (00_scope.md R20, R22). -/

namespace Sys2Proof

/-- A byte: 8 bits, bit 0 the least significant (R20). -/
abbrev Byte := BitVec 8

/-- A key or a text is a byte string (R22). -/
abbrev Text := List Byte

/-- The ASCII bytes a quoted literal stands for (R22). -/
def ascii (cs : List Char) : Text := cs.map fun c => BitVec.ofNat 8 c.toNat

end Sys2Proof
end

