-- ==== Sys2Proof/Config.lean ====
section
/-! DEFINITION. What DFP-D00 fixes at design time (00_scope.md R7-R18) and what the spec leaves open as a parameter.
A parameter left open is an `opaque` constant: nothing can be proved about its value. -/

namespace Sys2Proof

/-- The named parameters of 00_scope.md section 3. One record, so that a corrected literal changes one field. -/
structure Params where
  /-- R7: the capacity of the rolling buffer in bytes. -/
  maxBuffer : Nat
  /-- R8: the longest chunk one PUSH may carry. -/
  maxChunk : Nat
  /-- R9: the frame delimiter. -/
  flag : Byte
  /-- R10: the bytes that must be present from startOffset on before the header is parsed. -/
  minFrameBytes : Nat
  /-- R11: the largest byte of the short frame-format form. -/
  shortFormMax : Nat
  /-- R11: the largest byte of the extended frame-format form. -/
  extFormMax : Nat
  /-- R11: the frame-format class of the bytes above `extFormMax`. -/
  fmtUnsupported : Nat
  /-- R12: the longest address in bytes. -/
  addrMaxBytes : Nat
  /-- R13: the ignored link-layer-control header. -/
  llcBytes : Nat
  /-- R13: the ignored APDU byte. -/
  apduSkipBytes : Nat
  /-- R13: the ignored APDU-type field. -/
  apduTypeBytes : Nat
  /-- R14: the bound of the date-time marker scan. -/
  dtScanLimit : Nat
  /-- R15: the distance from the final cursor to the first byte kept. UNVERIFIED (log 6): D00 allows 2 as well. -/
  trimSkip : Nat
  /-- R16: the CRC's initial value. -/
  crcInit : BitVec 16
  /-- R16: the CRC's final xor value. -/
  crcXorOut : BitVec 16
  /-- R16: the CRC polynomial, unreflected. -/
  crcPoly : BitVec 16
  /-- R240: the same polynomial with its bits reversed, which the reflected loop uses. -/
  crcPolyReflected : BitVec 16
  /-- R17: the key whose first value is a clock. -/
  clockKey : Text
  /-- R17: the key of a composite that names none. -/
  defaultKey : Text
  /-- R18: the symbol of an unmapped unit code. -/
  unitDefault : Text
  /-- R45: the constant encoding tag of a record's header. -/
  encodingTag : Text
  deriving DecidableEq, Repr

/-- The values DFP-D00 takes (R7-R18). UNVERIFIED (log 16): D00's numeric literals are unaudited. -/
def Config.params : Params where
  maxBuffer := 2048
  maxChunk := 2048
  flag := 0x7E#8
  minFrameBytes := 14
  shortFormMax := 0x7F
  extFormMax := 0xF0
  fmtUnsupported := 8
  addrMaxBytes := 4
  llcBytes := 3
  apduSkipBytes := 1
  apduTypeBytes := 4
  dtScanLimit := 12
  trimSkip := 3
  crcInit := 0xFFFF#16
  crcXorOut := 0xFFFF#16
  crcPoly := 0x1021#16
  crcPolyReflected := 0x8408#16
  clockKey := ascii ['0', '-', '0', ':', '1', '.', '0', '.', '0', '.', '2', '5', '5']
  defaultKey := ascii ['d', 'a', 't', 'a']
  unitDefault := ascii ['*']
  encodingTag := ascii ['A', '-', 'X', 'D', 'R']

/-- The open part of UNIT_TABLE (R18, R380, D32): what codes 2..72 other than 27 and 44 map to. Log 5. -/
opaque Config.unitTableOpen : Byte → Option Text

/-- The open parameter RENDER_TEXT (D50): the text an observer writes for string bytes that are not printable ASCII or
not valid UTF-8. Log 7. -/
opaque Config.renderText : Text → Text

/-- The open parameter RENDER_SCALED (D51): how an observer writes the exact number m * 10^e. Log 7. -/
opaque Config.renderScaled : Int → Int → Text

end Sys2Proof
end

