-- ==== Sys2Proof/Syntax.lean ====
section
/-! DEFINITION. The instructions: one constructor per row of spec/opcode_table.json, and the two things they are read
from, a host request (30_encoding.md R134) or a byte at a decode position (R120-R131). -/

namespace Sys2Proof

/-- A request of the host as it arrives, before it is read as an instruction (R134). How it is carried on pins is the
open parameter PORT_ENCODING (log 8). -/
inductive HostRequest where
  /-- PUSH with its chunk. -/
  | push (chunk : List Byte)
  /-- READ_LATEST. -/
  | readLatest
  /-- RESET. -/
  | reset
  deriving DecidableEq, Repr

/-- The decode positions of 30_encoding.md: the same byte is another instruction at another position (R132). -/
inductive Position where
  /-- The first byte equal to FLAG (R230). -/
  | flag
  /-- The frame-format byte at startOffset (R234). -/
  | format
  /-- A byte of the client or the server address (R236). -/
  | address
  /-- The control byte (R237). -/
  | control
  /-- A byte of the date-time marker scan, or the length byte after it (R243). -/
  | dateTime
  /-- The top-level tag of the Payload Decoder (R300). -/
  | payload
  /-- The tag of a composite's first element, read without moving the cursor (R302). -/
  | peek
  /-- The tag of the Value Decoder (R350). -/
  | value
  deriving DecidableEq, Repr

/-- The rows of the opcode table. An operand named `low` is the bits the row's mask leaves open; the extended format rows
carry the fields of R122, with DLEN assembled from both bytes (R130). -/
inductive Instr where
  /-- PUSH: host transaction (R200). -/
  | push (chunk : List Byte)
  /-- READ_LATEST: host transaction (R208). -/
  | readLatest
  /-- RESET: host transaction (R212). -/
  | reset
  /-- FLAG: the delimiter byte 0x7E, 7E (R230). -/
  | flag
  /-- FMT_SHORT: a frame-format byte, 00..7F (R234). -/
  | fmtShort (len : BitVec 7)
  /-- FMT_EXT_80_BF: a frame-format byte, 80..BF (R234). -/
  | fmtExt80BF (cls : BitVec 2) (seg : Bool) (len : BitVec 11)
  /-- FMT_EXT_C0_DF: a frame-format byte, C0..DF (R234). -/
  | fmtExtC0DF (cls : BitVec 1) (seg : Bool) (len : BitVec 11)
  /-- FMT_EXT_E0_EF: a frame-format byte, E0..EF (R234). -/
  | fmtExtE0EF (seg : Bool) (len : BitVec 11)
  /-- FMT_EXT_F0_F0: a frame-format byte, F0 (R234). -/
  | fmtExtF0F0 (len : BitVec 8)
  /-- FMT_UNSUP_F1_F1: a frame-format byte, F1 (R234). -/
  | fmtUnsupF1F1
  /-- FMT_UNSUP_F2_F3: a frame-format byte, F2..F3 (R234). -/
  | fmtUnsupF2F3 (low : BitVec 1)
  /-- FMT_UNSUP_F4_F7: a frame-format byte, F4..F7 (R234). -/
  | fmtUnsupF4F7 (low : BitVec 2)
  /-- FMT_UNSUP_F8_FF: a frame-format byte, F8..FF (R234). -/
  | fmtUnsupF8FF (low : BitVec 3)
  /-- ADDR_MORE: an address byte, 00..FE (R236). -/
  | addrMore (hi : BitVec 7)
  /-- ADDR_LAST: an address byte, 01..FF (R236). -/
  | addrLast (hi : BitVec 7)
  /-- CTRL: the control byte, any value, 00..FF (R237). -/
  | ctrl (b : Byte)
  /-- DT_MARKER_EMPTY: a byte of the date-time scan, 00 (R243). -/
  | dtMarkerEmpty
  /-- DT_MARKER_12: a byte of the date-time scan, 0C (R243). -/
  | dtMarker12
  /-- DT_SKIP_01_01: a byte of the date-time scan, 01 (R243). -/
  | dtSkip0101
  /-- DT_SKIP_02_03: a byte of the date-time scan, 02..03 (R243). -/
  | dtSkip0203 (low : BitVec 1)
  /-- DT_SKIP_04_07: a byte of the date-time scan, 04..07 (R243). -/
  | dtSkip0407 (low : BitVec 2)
  /-- DT_SKIP_08_0B: a byte of the date-time scan, 08..0B (R243). -/
  | dtSkip080B (low : BitVec 2)
  /-- DT_SKIP_0D_0D: a byte of the date-time scan, 0D (R243). -/
  | dtSkip0D0D
  /-- DT_SKIP_0E_0F: a byte of the date-time scan, 0E..0F (R243). -/
  | dtSkip0E0F (low : BitVec 1)
  /-- DT_SKIP_10_1F: a byte of the date-time scan, 10..1F (R243). -/
  | dtSkip101F (low : BitVec 4)
  /-- DT_SKIP_20_3F: a byte of the date-time scan, 20..3F (R243). -/
  | dtSkip203F (low : BitVec 5)
  /-- DT_SKIP_40_7F: a byte of the date-time scan, 40..7F (R243). -/
  | dtSkip407F (low : BitVec 6)
  /-- DT_SKIP_80_FF: a byte of the date-time scan, 80..FF (R243). -/
  | dtSkip80FF (low : BitVec 7)
  /-- PD_NULL: a payload top-level tag, 00 (R301). -/
  | pdNull
  /-- PD_ARRAY: a payload top-level tag, 01 (R302). -/
  | pdArray
  /-- PD_STRUCT: a payload top-level tag, 02 (R302). -/
  | pdStruct
  /-- PD_COMPACT: a payload top-level tag, 13 (R310). -/
  | pdCompact
  /-- PD_OTHER_03_03: a payload top-level tag, 03 (R311). -/
  | pdOther0303
  /-- PD_OTHER_04_07: a payload top-level tag, 04..07 (R311). -/
  | pdOther0407 (low : BitVec 2)
  /-- PD_OTHER_08_0F: a payload top-level tag, 08..0F (R311). -/
  | pdOther080F (low : BitVec 3)
  /-- PD_OTHER_10_11: a payload top-level tag, 10..11 (R311). -/
  | pdOther1011 (low : BitVec 1)
  /-- PD_OTHER_12_12: a payload top-level tag, 12 (R311). -/
  | pdOther1212
  /-- PD_OTHER_14_17: a payload top-level tag, 14..17 (R311). -/
  | pdOther1417 (low : BitVec 2)
  /-- PD_OTHER_18_1F: a payload top-level tag, 18..1F (R311). -/
  | pdOther181F (low : BitVec 3)
  /-- PD_OTHER_20_3F: a payload top-level tag, 20..3F (R311). -/
  | pdOther203F (low : BitVec 5)
  /-- PD_OTHER_40_7F: a payload top-level tag, 40..7F (R311). -/
  | pdOther407F (low : BitVec 6)
  /-- PD_OTHER_80_FF: a payload top-level tag, 80..FF (R311). -/
  | pdOther80FF (low : BitVec 7)
  /-- PD_PEEK_MERGE_ARRAY: the peeked tag of a composite's first element, 01 (R303). -/
  | pdPeekMergeArray
  /-- PD_PEEK_MERGE_STRUCT: the peeked tag of a composite's first element, 02 (R303). -/
  | pdPeekMergeStruct
  /-- PD_PEEK_MERGE_COMPACT: the peeked tag of a composite's first element, 13 (R303). -/
  | pdPeekMergeCompact
  /-- PD_PEEK_VISIBLE_KEY: the peeked tag of a composite's first element, 0A (R304). -/
  | pdPeekVisibleKey
  /-- PD_PEEK_OBIS_KEY: the peeked tag of a composite's first element, 09 (R305). -/
  | pdPeekObisKey
  /-- PD_PEEK_DEFAULT_KEY_00_00: the peeked tag of a composite's first element, 00 (R306). -/
  | pdPeekDefaultKey0000
  /-- PD_PEEK_DEFAULT_KEY_03_03: the peeked tag of a composite's first element, 03 (R306). -/
  | pdPeekDefaultKey0303
  /-- PD_PEEK_DEFAULT_KEY_04_07: the peeked tag of a composite's first element, 04..07 (R306). -/
  | pdPeekDefaultKey0407 (low : BitVec 2)
  /-- PD_PEEK_DEFAULT_KEY_08_08: the peeked tag of a composite's first element, 08 (R306). -/
  | pdPeekDefaultKey0808
  /-- PD_PEEK_DEFAULT_KEY_0B_0B: the peeked tag of a composite's first element, 0B (R306). -/
  | pdPeekDefaultKey0B0B
  /-- PD_PEEK_DEFAULT_KEY_0C_0F: the peeked tag of a composite's first element, 0C..0F (R306). -/
  | pdPeekDefaultKey0C0F (low : BitVec 2)
  /-- PD_PEEK_DEFAULT_KEY_10_11: the peeked tag of a composite's first element, 10..11 (R306). -/
  | pdPeekDefaultKey1011 (low : BitVec 1)
  /-- PD_PEEK_DEFAULT_KEY_12_12: the peeked tag of a composite's first element, 12 (R306). -/
  | pdPeekDefaultKey1212
  /-- PD_PEEK_DEFAULT_KEY_14_17: the peeked tag of a composite's first element, 14..17 (R306). -/
  | pdPeekDefaultKey1417 (low : BitVec 2)
  /-- PD_PEEK_DEFAULT_KEY_18_1F: the peeked tag of a composite's first element, 18..1F (R306). -/
  | pdPeekDefaultKey181F (low : BitVec 3)
  /-- PD_PEEK_DEFAULT_KEY_20_3F: the peeked tag of a composite's first element, 20..3F (R306). -/
  | pdPeekDefaultKey203F (low : BitVec 5)
  /-- PD_PEEK_DEFAULT_KEY_40_7F: the peeked tag of a composite's first element, 40..7F (R306). -/
  | pdPeekDefaultKey407F (low : BitVec 6)
  /-- PD_PEEK_DEFAULT_KEY_80_FF: the peeked tag of a composite's first element, 80..FF (R306). -/
  | pdPeekDefaultKey80FF (low : BitVec 7)
  /-- VD_0: an A-XDR tag byte, 00 (R353). -/
  | vd0
  /-- VD_1: an A-XDR tag byte, 01 (R352). -/
  | vd1
  /-- VD_2: an A-XDR tag byte, 02 (R352). -/
  | vd2
  /-- VD_3: an A-XDR tag byte, 03 (R354). -/
  | vd3
  /-- VD_4: an A-XDR tag byte, 04 (R367). -/
  | vd4
  /-- VD_5: an A-XDR tag byte, 05 (R356). -/
  | vd5
  /-- VD_6: an A-XDR tag byte, 06 (R357). -/
  | vd6
  /-- VD_7: an A-XDR tag byte, 07 (R376). -/
  | vd7
  /-- VD_8: an A-XDR tag byte, 08 (R376). -/
  | vd8
  /-- VD_9: an A-XDR tag byte, 09 (R362). -/
  | vd9
  /-- VD_10: an A-XDR tag byte, 0A (R363). -/
  | vd10
  /-- VD_11: an A-XDR tag byte, 0B (R376). -/
  | vd11
  /-- VD_12: an A-XDR tag byte, 0C (R364). -/
  | vd12
  /-- VD_13: an A-XDR tag byte, 0D (R368). -/
  | vd13
  /-- VD_14: an A-XDR tag byte, 0E (R376). -/
  | vd14
  /-- VD_15: an A-XDR tag byte, 0F (R358). -/
  | vd15
  /-- VD_16: an A-XDR tag byte, 10 (R359). -/
  | vd16
  /-- VD_17: an A-XDR tag byte, 11 (R360). -/
  | vd17
  /-- VD_18: an A-XDR tag byte, 12 (R361). -/
  | vd18
  /-- VD_19: an A-XDR tag byte, 13 (R374). -/
  | vd19
  /-- VD_20: an A-XDR tag byte, 14 (R365). -/
  | vd20
  /-- VD_21: an A-XDR tag byte, 15 (R366). -/
  | vd21
  /-- VD_22: an A-XDR tag byte, 16 (R373). -/
  | vd22
  /-- VD_23: an A-XDR tag byte, 17 (R375). -/
  | vd23
  /-- VD_24: an A-XDR tag byte, 18 (R375). -/
  | vd24
  /-- VD_25: an A-XDR tag byte, 19 (R370). -/
  | vd25
  /-- VD_26: an A-XDR tag byte, 1A (R371). -/
  | vd26
  /-- VD_27: an A-XDR tag byte, 1B (R372). -/
  | vd27
  /-- VD_OTHER_1C_1F: an A-XDR tag byte, 1C..1F (R376). -/
  | vdOther1C1F (low : BitVec 2)
  /-- VD_OTHER_20_3F: an A-XDR tag byte, 20..3F (R376). -/
  | vdOther203F (low : BitVec 5)
  /-- VD_OTHER_40_7F: an A-XDR tag byte, 40..7F (R376). -/
  | vdOther407F (low : BitVec 6)
  /-- VD_OTHER_80_FF: an A-XDR tag byte, 80..FF (R376). -/
  | vdOther80FF (low : BitVec 7)
  deriving DecidableEq, Repr

end Sys2Proof
end

