-- ==== Sys2Proof/WellFormed.lean ====
section
/-! DEFINITION. Which instructions are well formed. Every operand width is exact in the syntax but for PUSH's chunk, whose
length the host's contract bounds (40_host_transactions.md R201). -/

namespace Sys2Proof

/-- A chunk within the contract of R201: at most MAX_CHUNK bytes. -/
def chunkWellFormed (chunk : List Byte) : Bool := decide (chunk.length ≤ Config.params.maxChunk)

/-- Well-formedness of an instruction: only PUSH has an operand that can break the host's contract. -/
def Instr.wellFormed : Instr → Bool
  | .push chunk => chunkWellFormed chunk
  | .readLatest => true
  | .reset => true
  | .flag => true
  | .fmtShort _ => true
  | .fmtExt80BF _ _ _ => true
  | .fmtExtC0DF _ _ _ => true
  | .fmtExtE0EF _ _ => true
  | .fmtExtF0F0 _ => true
  | .fmtUnsupF1F1 => true
  | .fmtUnsupF2F3 _ => true
  | .fmtUnsupF4F7 _ => true
  | .fmtUnsupF8FF _ => true
  | .addrMore _ => true
  | .addrLast _ => true
  | .ctrl _ => true
  | .dtMarkerEmpty => true
  | .dtMarker12 => true
  | .dtSkip0101 => true
  | .dtSkip0203 _ => true
  | .dtSkip0407 _ => true
  | .dtSkip080B _ => true
  | .dtSkip0D0D => true
  | .dtSkip0E0F _ => true
  | .dtSkip101F _ => true
  | .dtSkip203F _ => true
  | .dtSkip407F _ => true
  | .dtSkip80FF _ => true
  | .pdNull => true
  | .pdArray => true
  | .pdStruct => true
  | .pdCompact => true
  | .pdOther0303 => true
  | .pdOther0407 _ => true
  | .pdOther080F _ => true
  | .pdOther1011 _ => true
  | .pdOther1212 => true
  | .pdOther1417 _ => true
  | .pdOther181F _ => true
  | .pdOther203F _ => true
  | .pdOther407F _ => true
  | .pdOther80FF _ => true
  | .pdPeekMergeArray => true
  | .pdPeekMergeStruct => true
  | .pdPeekMergeCompact => true
  | .pdPeekVisibleKey => true
  | .pdPeekObisKey => true
  | .pdPeekDefaultKey0000 => true
  | .pdPeekDefaultKey0303 => true
  | .pdPeekDefaultKey0407 _ => true
  | .pdPeekDefaultKey0808 => true
  | .pdPeekDefaultKey0B0B => true
  | .pdPeekDefaultKey0C0F _ => true
  | .pdPeekDefaultKey1011 _ => true
  | .pdPeekDefaultKey1212 => true
  | .pdPeekDefaultKey1417 _ => true
  | .pdPeekDefaultKey181F _ => true
  | .pdPeekDefaultKey203F _ => true
  | .pdPeekDefaultKey407F _ => true
  | .pdPeekDefaultKey80FF _ => true
  | .vd0 => true
  | .vd1 => true
  | .vd2 => true
  | .vd3 => true
  | .vd4 => true
  | .vd5 => true
  | .vd6 => true
  | .vd7 => true
  | .vd8 => true
  | .vd9 => true
  | .vd10 => true
  | .vd11 => true
  | .vd12 => true
  | .vd13 => true
  | .vd14 => true
  | .vd15 => true
  | .vd16 => true
  | .vd17 => true
  | .vd18 => true
  | .vd19 => true
  | .vd20 => true
  | .vd21 => true
  | .vd22 => true
  | .vd23 => true
  | .vd24 => true
  | .vd25 => true
  | .vd26 => true
  | .vd27 => true
  | .vdOther1C1F _ => true
  | .vdOther203F _ => true
  | .vdOther407F _ => true
  | .vdOther80FF _ => true

/-- Well-formedness of a host request: that of the instruction it is read as. -/
def HostRequest.wellFormed : HostRequest → Bool
  | .push chunk => chunkWellFormed chunk
  | .readLatest => true
  | .reset => true

end Sys2Proof
end

