-- ==== Sys2Proof/Decode.lean ====
section
/-! DEFINITION. The decoder, total on any bytes at any decode position, and the encoder, both written from 30_encoding.md
R121-R131 and the masks of spec/opcode_table.json. -/

namespace Sys2Proof

/-- Why bytes are no instruction. -/
inductive DecodeError where
  /-- The instruction's bytes run past the end of the buffer (20_memory.md R82). -/
  | endOfBuffer
  /-- At the flag position, a byte that is not FLAG (R230): the search passes over it. -/
  | notFlag
  deriving DecidableEq, Repr

/-- A row of the opcode table matches a byte `b` when `b & mask = match` (30_encoding.md, opening). -/
def rowMatches (b mask pat : Byte) : Bool := b &&& mask == pat

/-- The byte of a row: the bits its mask fixes, with the operand in the bits it leaves open at the low end. -/
def classByte (base : Byte) {k : Nat} (low : BitVec k) : Byte := base ||| low.setWidth 8

/-- An address byte: the address bits above the extension terminator (R124). -/
def addressByte (hi : BitVec 7) (last : BitVec 1) : Byte := hi ++ last

/-- The first byte of the extended form: class bit, three class bits, segmentation, length bits 10..8 (R122). -/
def extFirstByte (cls : BitVec 3) (seg : Bool) (len : BitVec 11) : Byte :=
  (1#1 ++ cls ++ BitVec.ofBool seg ++ len.extractLsb' 8 3 : BitVec (1 + 3 + 1 + 3))

/-- The length field of the extended form, assembled from both bytes (R130). -/
def extLength (b1 b2 : Byte) : BitVec 11 := (b1.setWidth 3 ++ b2 : BitVec (3 + 8))

/-- Frame-format position (R121-R123): the extended form takes a second byte. -/
def decodeFormat (b : Byte) (rest : List Byte) : Except DecodeError (Instr × List Byte) :=
  if rowMatches b 0x80#8 0x00#8 then .ok (.fmtShort (b.setWidth 7), rest)
  else if rowMatches b 0xFF#8 0xF1#8 then .ok (.fmtUnsupF1F1, rest)
  else if rowMatches b 0xFE#8 0xF2#8 then .ok (.fmtUnsupF2F3 (b.setWidth 1), rest)
  else if rowMatches b 0xFC#8 0xF4#8 then .ok (.fmtUnsupF4F7 (b.setWidth 2), rest)
  else if rowMatches b 0xF8#8 0xF8#8 then .ok (.fmtUnsupF8FF (b.setWidth 3), rest)
  else
    match rest with
    | [] => .error .endOfBuffer
    | b2 :: rest =>
      if rowMatches b 0xC0#8 0x80#8 then
        .ok (.fmtExt80BF (b.extractLsb' 4 2) (b.getLsbD 3) (extLength b b2), rest)
      else if rowMatches b 0xE0#8 0xC0#8 then
        .ok (.fmtExtC0DF (b.extractLsb' 4 1) (b.getLsbD 3) (extLength b b2), rest)
      else if rowMatches b 0xF0#8 0xE0#8 then .ok (.fmtExtE0EF (b.getLsbD 3) (extLength b b2), rest)
      else .ok (.fmtExtF0F0 b2, rest)

/-- Address position (R124). -/
def decodeAddress (b : Byte) : Instr :=
  if rowMatches b 0x01#8 0x00#8 then .addrMore (b.extractLsb' 1 7) else .addrLast (b.extractLsb' 1 7)

/-- Date-time scan position (R127, R243). -/
def decodeDateTime (b : Byte) : Instr :=
  if rowMatches b 0xFF#8 0x00#8 then .dtMarkerEmpty
  else if rowMatches b 0xFF#8 0x0C#8 then .dtMarker12
  else if rowMatches b 0xFF#8 0x01#8 then .dtSkip0101
  else if rowMatches b 0xFE#8 0x02#8 then .dtSkip0203 (b.setWidth 1)
  else if rowMatches b 0xFC#8 0x04#8 then .dtSkip0407 (b.setWidth 2)
  else if rowMatches b 0xFC#8 0x08#8 then .dtSkip080B (b.setWidth 2)
  else if rowMatches b 0xFF#8 0x0D#8 then .dtSkip0D0D
  else if rowMatches b 0xFE#8 0x0E#8 then .dtSkip0E0F (b.setWidth 1)
  else if rowMatches b 0xF0#8 0x10#8 then .dtSkip101F (b.setWidth 4)
  else if rowMatches b 0xE0#8 0x20#8 then .dtSkip203F (b.setWidth 5)
  else if rowMatches b 0xC0#8 0x40#8 then .dtSkip407F (b.setWidth 6)
  else .dtSkip80FF (b.setWidth 7)

/-- Payload top-level tag (R129, R300). -/
def decodePayload (b : Byte) : Instr :=
  if rowMatches b 0xFF#8 0x00#8 then .pdNull
  else if rowMatches b 0xFF#8 0x01#8 then .pdArray
  else if rowMatches b 0xFF#8 0x02#8 then .pdStruct
  else if rowMatches b 0xFF#8 0x13#8 then .pdCompact
  else if rowMatches b 0xFF#8 0x03#8 then .pdOther0303
  else if rowMatches b 0xFC#8 0x04#8 then .pdOther0407 (b.setWidth 2)
  else if rowMatches b 0xF8#8 0x08#8 then .pdOther080F (b.setWidth 3)
  else if rowMatches b 0xFE#8 0x10#8 then .pdOther1011 (b.setWidth 1)
  else if rowMatches b 0xFF#8 0x12#8 then .pdOther1212
  else if rowMatches b 0xFC#8 0x14#8 then .pdOther1417 (b.setWidth 2)
  else if rowMatches b 0xF8#8 0x18#8 then .pdOther181F (b.setWidth 3)
  else if rowMatches b 0xE0#8 0x20#8 then .pdOther203F (b.setWidth 5)
  else if rowMatches b 0xC0#8 0x40#8 then .pdOther407F (b.setWidth 6)
  else .pdOther80FF (b.setWidth 7)

/-- Payload peek (R302). -/
def decodePeek (b : Byte) : Instr :=
  if rowMatches b 0xFF#8 0x01#8 then .pdPeekMergeArray
  else if rowMatches b 0xFF#8 0x02#8 then .pdPeekMergeStruct
  else if rowMatches b 0xFF#8 0x13#8 then .pdPeekMergeCompact
  else if rowMatches b 0xFF#8 0x0A#8 then .pdPeekVisibleKey
  else if rowMatches b 0xFF#8 0x09#8 then .pdPeekObisKey
  else if rowMatches b 0xFF#8 0x00#8 then .pdPeekDefaultKey0000
  else if rowMatches b 0xFF#8 0x03#8 then .pdPeekDefaultKey0303
  else if rowMatches b 0xFC#8 0x04#8 then .pdPeekDefaultKey0407 (b.setWidth 2)
  else if rowMatches b 0xFF#8 0x08#8 then .pdPeekDefaultKey0808
  else if rowMatches b 0xFF#8 0x0B#8 then .pdPeekDefaultKey0B0B
  else if rowMatches b 0xFC#8 0x0C#8 then .pdPeekDefaultKey0C0F (b.setWidth 2)
  else if rowMatches b 0xFE#8 0x10#8 then .pdPeekDefaultKey1011 (b.setWidth 1)
  else if rowMatches b 0xFF#8 0x12#8 then .pdPeekDefaultKey1212
  else if rowMatches b 0xFC#8 0x14#8 then .pdPeekDefaultKey1417 (b.setWidth 2)
  else if rowMatches b 0xF8#8 0x18#8 then .pdPeekDefaultKey181F (b.setWidth 3)
  else if rowMatches b 0xE0#8 0x20#8 then .pdPeekDefaultKey203F (b.setWidth 5)
  else if rowMatches b 0xC0#8 0x40#8 then .pdPeekDefaultKey407F (b.setWidth 6)
  else .pdPeekDefaultKey80FF (b.setWidth 7)

/-- Value Decoder tag (R128, R350). -/
def decodeValue (b : Byte) : Instr :=
  if rowMatches b 0xFF#8 0x00#8 then .vd0
  else if rowMatches b 0xFF#8 0x01#8 then .vd1
  else if rowMatches b 0xFF#8 0x02#8 then .vd2
  else if rowMatches b 0xFF#8 0x03#8 then .vd3
  else if rowMatches b 0xFF#8 0x04#8 then .vd4
  else if rowMatches b 0xFF#8 0x05#8 then .vd5
  else if rowMatches b 0xFF#8 0x06#8 then .vd6
  else if rowMatches b 0xFF#8 0x07#8 then .vd7
  else if rowMatches b 0xFF#8 0x08#8 then .vd8
  else if rowMatches b 0xFF#8 0x09#8 then .vd9
  else if rowMatches b 0xFF#8 0x0A#8 then .vd10
  else if rowMatches b 0xFF#8 0x0B#8 then .vd11
  else if rowMatches b 0xFF#8 0x0C#8 then .vd12
  else if rowMatches b 0xFF#8 0x0D#8 then .vd13
  else if rowMatches b 0xFF#8 0x0E#8 then .vd14
  else if rowMatches b 0xFF#8 0x0F#8 then .vd15
  else if rowMatches b 0xFF#8 0x10#8 then .vd16
  else if rowMatches b 0xFF#8 0x11#8 then .vd17
  else if rowMatches b 0xFF#8 0x12#8 then .vd18
  else if rowMatches b 0xFF#8 0x13#8 then .vd19
  else if rowMatches b 0xFF#8 0x14#8 then .vd20
  else if rowMatches b 0xFF#8 0x15#8 then .vd21
  else if rowMatches b 0xFF#8 0x16#8 then .vd22
  else if rowMatches b 0xFF#8 0x17#8 then .vd23
  else if rowMatches b 0xFF#8 0x18#8 then .vd24
  else if rowMatches b 0xFF#8 0x19#8 then .vd25
  else if rowMatches b 0xFF#8 0x1A#8 then .vd26
  else if rowMatches b 0xFF#8 0x1B#8 then .vd27
  else if rowMatches b 0xFC#8 0x1C#8 then .vdOther1C1F (b.setWidth 2)
  else if rowMatches b 0xE0#8 0x20#8 then .vdOther203F (b.setWidth 5)
  else if rowMatches b 0xC0#8 0x40#8 then .vdOther407F (b.setWidth 6)
  else .vdOther80FF (b.setWidth 7)

/-- The instruction that stands first in a byte list read at a decode position, with the bytes after it. -/
def decodeAt (p : Position) : List Byte → Except DecodeError (Instr × List Byte)
  | [] => .error .endOfBuffer
  | b :: rest =>
    match p with
    | .flag => if b = Config.params.flag then .ok (.flag, rest) else .error .notFlag
    | .format => decodeFormat b rest
    | .address => .ok (decodeAddress b, rest)
    | .control => .ok (.ctrl b, rest)
    | .dateTime => .ok (decodeDateTime b, rest)
    | .payload => .ok (decodePayload b, rest)
    | .peek => .ok (decodePeek b, rest)
    | .value => .ok (decodeValue b, rest)

/-- A host request read as the instruction it asks for (R134). -/
def HostRequest.toInstr : HostRequest → Instr
  | .push chunk => .push chunk
  | .readLatest => .readLatest
  | .reset => .reset

/-- What an instruction is written as: a host request, or bytes at a decode position. -/
inductive Code where
  /-- A host transaction's request. -/
  | request (r : HostRequest)
  /-- The bytes of a byte row, at its position. -/
  | bytes (p : Position) (bs : List Byte)
  deriving DecidableEq, Repr

/-- The words of an instruction (R121-R134). -/
def encode : Instr → Code
  | .push chunk => .request (.push chunk)
  | .readLatest => .request .readLatest
  | .reset => .request .reset
  | .flag => .bytes .flag [0x7E#8]
  | .fmtShort len => .bytes .format [classByte 0x00#8 len]
  | .fmtExt80BF cls seg len => .bytes .format [extFirstByte (0#1 ++ cls) seg len, len.setWidth 8]
  | .fmtExtC0DF cls seg len => .bytes .format [extFirstByte (2#2 ++ cls) seg len, len.setWidth 8]
  | .fmtExtE0EF seg len => .bytes .format [extFirstByte 6#3 seg len, len.setWidth 8]
  | .fmtExtF0F0 len => .bytes .format [0xF0#8, len]
  | .fmtUnsupF1F1 => .bytes .format [0xF1#8]
  | .fmtUnsupF2F3 low => .bytes .format [classByte 0xF2#8 low]
  | .fmtUnsupF4F7 low => .bytes .format [classByte 0xF4#8 low]
  | .fmtUnsupF8FF low => .bytes .format [classByte 0xF8#8 low]
  | .addrMore hi => .bytes .address [addressByte hi 0#1]
  | .addrLast hi => .bytes .address [addressByte hi 1#1]
  | .ctrl b => .bytes .control [b]
  | .dtMarkerEmpty => .bytes .dateTime [0x00#8]
  | .dtMarker12 => .bytes .dateTime [0x0C#8]
  | .dtSkip0101 => .bytes .dateTime [0x01#8]
  | .dtSkip0203 low => .bytes .dateTime [classByte 0x02#8 low]
  | .dtSkip0407 low => .bytes .dateTime [classByte 0x04#8 low]
  | .dtSkip080B low => .bytes .dateTime [classByte 0x08#8 low]
  | .dtSkip0D0D => .bytes .dateTime [0x0D#8]
  | .dtSkip0E0F low => .bytes .dateTime [classByte 0x0E#8 low]
  | .dtSkip101F low => .bytes .dateTime [classByte 0x10#8 low]
  | .dtSkip203F low => .bytes .dateTime [classByte 0x20#8 low]
  | .dtSkip407F low => .bytes .dateTime [classByte 0x40#8 low]
  | .dtSkip80FF low => .bytes .dateTime [classByte 0x80#8 low]
  | .pdNull => .bytes .payload [0x00#8]
  | .pdArray => .bytes .payload [0x01#8]
  | .pdStruct => .bytes .payload [0x02#8]
  | .pdCompact => .bytes .payload [0x13#8]
  | .pdOther0303 => .bytes .payload [0x03#8]
  | .pdOther0407 low => .bytes .payload [classByte 0x04#8 low]
  | .pdOther080F low => .bytes .payload [classByte 0x08#8 low]
  | .pdOther1011 low => .bytes .payload [classByte 0x10#8 low]
  | .pdOther1212 => .bytes .payload [0x12#8]
  | .pdOther1417 low => .bytes .payload [classByte 0x14#8 low]
  | .pdOther181F low => .bytes .payload [classByte 0x18#8 low]
  | .pdOther203F low => .bytes .payload [classByte 0x20#8 low]
  | .pdOther407F low => .bytes .payload [classByte 0x40#8 low]
  | .pdOther80FF low => .bytes .payload [classByte 0x80#8 low]
  | .pdPeekMergeArray => .bytes .peek [0x01#8]
  | .pdPeekMergeStruct => .bytes .peek [0x02#8]
  | .pdPeekMergeCompact => .bytes .peek [0x13#8]
  | .pdPeekVisibleKey => .bytes .peek [0x0A#8]
  | .pdPeekObisKey => .bytes .peek [0x09#8]
  | .pdPeekDefaultKey0000 => .bytes .peek [0x00#8]
  | .pdPeekDefaultKey0303 => .bytes .peek [0x03#8]
  | .pdPeekDefaultKey0407 low => .bytes .peek [classByte 0x04#8 low]
  | .pdPeekDefaultKey0808 => .bytes .peek [0x08#8]
  | .pdPeekDefaultKey0B0B => .bytes .peek [0x0B#8]
  | .pdPeekDefaultKey0C0F low => .bytes .peek [classByte 0x0C#8 low]
  | .pdPeekDefaultKey1011 low => .bytes .peek [classByte 0x10#8 low]
  | .pdPeekDefaultKey1212 => .bytes .peek [0x12#8]
  | .pdPeekDefaultKey1417 low => .bytes .peek [classByte 0x14#8 low]
  | .pdPeekDefaultKey181F low => .bytes .peek [classByte 0x18#8 low]
  | .pdPeekDefaultKey203F low => .bytes .peek [classByte 0x20#8 low]
  | .pdPeekDefaultKey407F low => .bytes .peek [classByte 0x40#8 low]
  | .pdPeekDefaultKey80FF low => .bytes .peek [classByte 0x80#8 low]
  | .vd0 => .bytes .value [0x00#8]
  | .vd1 => .bytes .value [0x01#8]
  | .vd2 => .bytes .value [0x02#8]
  | .vd3 => .bytes .value [0x03#8]
  | .vd4 => .bytes .value [0x04#8]
  | .vd5 => .bytes .value [0x05#8]
  | .vd6 => .bytes .value [0x06#8]
  | .vd7 => .bytes .value [0x07#8]
  | .vd8 => .bytes .value [0x08#8]
  | .vd9 => .bytes .value [0x09#8]
  | .vd10 => .bytes .value [0x0A#8]
  | .vd11 => .bytes .value [0x0B#8]
  | .vd12 => .bytes .value [0x0C#8]
  | .vd13 => .bytes .value [0x0D#8]
  | .vd14 => .bytes .value [0x0E#8]
  | .vd15 => .bytes .value [0x0F#8]
  | .vd16 => .bytes .value [0x10#8]
  | .vd17 => .bytes .value [0x11#8]
  | .vd18 => .bytes .value [0x12#8]
  | .vd19 => .bytes .value [0x13#8]
  | .vd20 => .bytes .value [0x14#8]
  | .vd21 => .bytes .value [0x15#8]
  | .vd22 => .bytes .value [0x16#8]
  | .vd23 => .bytes .value [0x17#8]
  | .vd24 => .bytes .value [0x18#8]
  | .vd25 => .bytes .value [0x19#8]
  | .vd26 => .bytes .value [0x1A#8]
  | .vd27 => .bytes .value [0x1B#8]
  | .vdOther1C1F low => .bytes .value [classByte 0x1C#8 low]
  | .vdOther203F low => .bytes .value [classByte 0x20#8 low]
  | .vdOther407F low => .bytes .value [classByte 0x40#8 low]
  | .vdOther80FF low => .bytes .value [classByte 0x80#8 low]

/-- The instruction that code stands for, if it is whole. -/
def decode : Code → Except DecodeError (Instr × List Byte)
  | .request r => .ok (r.toInstr, [])
  | .bytes p bs => decodeAt p bs

/-- The row of the opcode table an instruction belongs to: its mask and match, for a byte row. -/
def Instr.row : Instr → Option (Byte × Byte)
  | .push _ => none
  | .readLatest => none
  | .reset => none
  | .flag => some (0xFF#8, 0x7E#8)
  | .fmtShort _ => some (0x80#8, 0x00#8)
  | .fmtExt80BF _ _ _ => some (0xC0#8, 0x80#8)
  | .fmtExtC0DF _ _ _ => some (0xE0#8, 0xC0#8)
  | .fmtExtE0EF _ _ => some (0xF0#8, 0xE0#8)
  | .fmtExtF0F0 _ => some (0xFF#8, 0xF0#8)
  | .fmtUnsupF1F1 => some (0xFF#8, 0xF1#8)
  | .fmtUnsupF2F3 _ => some (0xFE#8, 0xF2#8)
  | .fmtUnsupF4F7 _ => some (0xFC#8, 0xF4#8)
  | .fmtUnsupF8FF _ => some (0xF8#8, 0xF8#8)
  | .addrMore _ => some (0x01#8, 0x00#8)
  | .addrLast _ => some (0x01#8, 0x01#8)
  | .ctrl _ => some (0x00#8, 0x00#8)
  | .dtMarkerEmpty => some (0xFF#8, 0x00#8)
  | .dtMarker12 => some (0xFF#8, 0x0C#8)
  | .dtSkip0101 => some (0xFF#8, 0x01#8)
  | .dtSkip0203 _ => some (0xFE#8, 0x02#8)
  | .dtSkip0407 _ => some (0xFC#8, 0x04#8)
  | .dtSkip080B _ => some (0xFC#8, 0x08#8)
  | .dtSkip0D0D => some (0xFF#8, 0x0D#8)
  | .dtSkip0E0F _ => some (0xFE#8, 0x0E#8)
  | .dtSkip101F _ => some (0xF0#8, 0x10#8)
  | .dtSkip203F _ => some (0xE0#8, 0x20#8)
  | .dtSkip407F _ => some (0xC0#8, 0x40#8)
  | .dtSkip80FF _ => some (0x80#8, 0x80#8)
  | .pdNull => some (0xFF#8, 0x00#8)
  | .pdArray => some (0xFF#8, 0x01#8)
  | .pdStruct => some (0xFF#8, 0x02#8)
  | .pdCompact => some (0xFF#8, 0x13#8)
  | .pdOther0303 => some (0xFF#8, 0x03#8)
  | .pdOther0407 _ => some (0xFC#8, 0x04#8)
  | .pdOther080F _ => some (0xF8#8, 0x08#8)
  | .pdOther1011 _ => some (0xFE#8, 0x10#8)
  | .pdOther1212 => some (0xFF#8, 0x12#8)
  | .pdOther1417 _ => some (0xFC#8, 0x14#8)
  | .pdOther181F _ => some (0xF8#8, 0x18#8)
  | .pdOther203F _ => some (0xE0#8, 0x20#8)
  | .pdOther407F _ => some (0xC0#8, 0x40#8)
  | .pdOther80FF _ => some (0x80#8, 0x80#8)
  | .pdPeekMergeArray => some (0xFF#8, 0x01#8)
  | .pdPeekMergeStruct => some (0xFF#8, 0x02#8)
  | .pdPeekMergeCompact => some (0xFF#8, 0x13#8)
  | .pdPeekVisibleKey => some (0xFF#8, 0x0A#8)
  | .pdPeekObisKey => some (0xFF#8, 0x09#8)
  | .pdPeekDefaultKey0000 => some (0xFF#8, 0x00#8)
  | .pdPeekDefaultKey0303 => some (0xFF#8, 0x03#8)
  | .pdPeekDefaultKey0407 _ => some (0xFC#8, 0x04#8)
  | .pdPeekDefaultKey0808 => some (0xFF#8, 0x08#8)
  | .pdPeekDefaultKey0B0B => some (0xFF#8, 0x0B#8)
  | .pdPeekDefaultKey0C0F _ => some (0xFC#8, 0x0C#8)
  | .pdPeekDefaultKey1011 _ => some (0xFE#8, 0x10#8)
  | .pdPeekDefaultKey1212 => some (0xFF#8, 0x12#8)
  | .pdPeekDefaultKey1417 _ => some (0xFC#8, 0x14#8)
  | .pdPeekDefaultKey181F _ => some (0xF8#8, 0x18#8)
  | .pdPeekDefaultKey203F _ => some (0xE0#8, 0x20#8)
  | .pdPeekDefaultKey407F _ => some (0xC0#8, 0x40#8)
  | .pdPeekDefaultKey80FF _ => some (0x80#8, 0x80#8)
  | .vd0 => some (0xFF#8, 0x00#8)
  | .vd1 => some (0xFF#8, 0x01#8)
  | .vd2 => some (0xFF#8, 0x02#8)
  | .vd3 => some (0xFF#8, 0x03#8)
  | .vd4 => some (0xFF#8, 0x04#8)
  | .vd5 => some (0xFF#8, 0x05#8)
  | .vd6 => some (0xFF#8, 0x06#8)
  | .vd7 => some (0xFF#8, 0x07#8)
  | .vd8 => some (0xFF#8, 0x08#8)
  | .vd9 => some (0xFF#8, 0x09#8)
  | .vd10 => some (0xFF#8, 0x0A#8)
  | .vd11 => some (0xFF#8, 0x0B#8)
  | .vd12 => some (0xFF#8, 0x0C#8)
  | .vd13 => some (0xFF#8, 0x0D#8)
  | .vd14 => some (0xFF#8, 0x0E#8)
  | .vd15 => some (0xFF#8, 0x0F#8)
  | .vd16 => some (0xFF#8, 0x10#8)
  | .vd17 => some (0xFF#8, 0x11#8)
  | .vd18 => some (0xFF#8, 0x12#8)
  | .vd19 => some (0xFF#8, 0x13#8)
  | .vd20 => some (0xFF#8, 0x14#8)
  | .vd21 => some (0xFF#8, 0x15#8)
  | .vd22 => some (0xFF#8, 0x16#8)
  | .vd23 => some (0xFF#8, 0x17#8)
  | .vd24 => some (0xFF#8, 0x18#8)
  | .vd25 => some (0xFF#8, 0x19#8)
  | .vd26 => some (0xFF#8, 0x1A#8)
  | .vd27 => some (0xFF#8, 0x1B#8)
  | .vdOther1C1F _ => some (0xFC#8, 0x1C#8)
  | .vdOther203F _ => some (0xE0#8, 0x20#8)
  | .vdOther407F _ => some (0xC0#8, 0x40#8)
  | .vdOther80FF _ => some (0x80#8, 0x80#8)

/-- A row whose instruction is bytes at a decode position, not a host transaction. -/
def Instr.isByteRow (i : Instr) : Bool := i.row.isSome

/-- The bytes of a table word, first byte lowest, in `k` bytes. -/
def wordBytes : Nat → Nat → List Byte
  | 0, _ => []
  | k + 1, w => BitVec.ofNat 8 w :: wordBytes k (w / 256)

/-- A table word laid out as the block stores it: its bytes in order, then zeros up to the longest element of fixed length
(a date-time, 13 bytes) and past it. -/
def tableBytes (nbits w : Nat) : List Byte := wordBytes ((nbits + 7) / 8) w ++ List.replicate 16 0x00#8

/-- DESIGN CHOICE (log 8): a word of the opcode table names no decode position, and one byte is a row at several. It is
read where the spec gives it the narrowest meaning: FLAG as the delimiter, a byte 0x80..0xFF as a frame-format byte, any
other as an A-XDR tag. -/
def tablePosition : List Byte → Position
  | [] => .value
  | b :: _ => if b = Config.params.flag then .flag else if rowMatches b 0x80#8 0x80#8 then .format else .value

/-- The instruction the decoder reads from a table word. -/
def decodeTableWord (nbits w : Nat) : Option Instr :=
  match decodeAt (tablePosition (tableBytes nbits w)) (tableBytes nbits w) with
  | .ok (i, _) => some i
  | .error _ => none

end Sys2Proof
end

