-- ==== Sys2Proof/Machine/State.lean ====
section
/-! DEFINITION. The state of DFP-D00 (10_state.md), the machine right after reset (70_reset_and_hazards.md R600), and the
reasons a step can stop. -/

namespace Sys2Proof.Machine

/-- BUF as a memory: (address, byte) pairs with addresses 0, 1, 2, … (R40, R80; log 4). An address that is not listed does
not exist: reading it raises DecodeOOB (20_memory.md R82). -/
abbrev Memory := List Host.Cell

/-- The kinds of an integer value (R44, R56). -/
inductive IntKind where
  | i8 | u8 | i16 | u16 | i32 | u32 | i64 | u64
  deriving DecidableEq, Repr

mutual
/-- A decoded value, the closed tagged union of R44. A decode failure is not a Value. -/
inductive Value where
  /-- Tag 0: absent, and a success. -/
  | null
  /-- Tag 3. -/
  | bool (b : Bool)
  /-- Tags 5, 6, 15 to 18, 20, 21: exact, in the range of its kind (R56). -/
  | int (k : IntKind) (v : Int)
  /-- Tag 4. -/
  | bits (b : Byte)
  /-- Tag 9. -/
  | octets (bs : List Byte)
  /-- Tag 10: the bytes as received. -/
  | visible (bs : List Byte)
  /-- Tag 12: the bytes as received. -/
  | utf8 (bs : List Byte)
  /-- Tag 13. -/
  | bcd (b : Byte)
  /-- Tag 22: the unit symbol. -/
  | unit (sym : Text)
  /-- Tag 25. -/
  | datetime (bs : List Byte)
  /-- Tag 26. -/
  | date (bs : List Byte)
  /-- Tag 27. -/
  | time (bs : List Byte)
  /-- Tags 1 and 2 alike. -/
  | seq (items : ValueSeq)
  /-- Class-3 scaling only (R313): the exact number m * 10^e. -/
  | scaled (m e : Int)
  /-- Clock reformatting only (R314). -/
  | text (s : Text)
  deriving DecidableEq, Repr

/-- The ordered items of a `seq`. -/
inductive ValueSeq where
  | nil
  | cons (head : Value) (tail : ValueSeq)
  deriving DecidableEq, Repr
end

/-- One entry of a payload (R46). -/
structure Entry where
  key : Text
  vals : List Value
  deriving DecidableEq, Repr

/-- An ordered mapping from key to values (R46). -/
abbrev Payload := List Entry

/-- A record's header (R45). -/
structure Header where
  encoding : Text
  frameFormat : Nat
  segmentation : Bool
  dataLength : Int
  clientAddress : BitVec 32
  serverAddress : BitVec 32
  control : Byte
  headerCrc : BitVec 16
  frameCrc : BitVec 16
  dateTime : List Byte
  deriving DecidableEq, Repr

/-- A meter record (R45). -/
structure Record where
  header : Header
  payload : Payload
  deriving DecidableEq, Repr

/-- DEFAULT_RECORD with the field values of R57. Log 15: a claim reads LATEST_VALID before it relies on one. -/
def Record.default : Record where
  header := {
    encoding := Config.params.encodingTag
    frameFormat := 0
    segmentation := false
    dataLength := -1
    clientAddress := 0#32
    serverAddress := 0#32
    control := 0#8
    headerCrc := 0#16
    frameCrc := 0#16
    dateTime := [] }
  payload := []

/-- The outcomes of a parse attempt (60_exceptions.md R500). IDLE is no outcome: it is STATUS at reset. -/
inductive ParseOutcome where
  | recordOk
  | insuffNoFlag
  | insuffShort
  | insuffIncomplete
  | hcsMismatch
  | fcsMismatch
  | formatUnsupported
  | decodeFail
  | decodeOob
  deriving DecidableEq, Repr

/-- A merge branch in progress (R303): the elements still to come after the one being decoded, the mapping so far. -/
structure MergeFrame where
  left : Nat
  entries : Payload
  deriving DecidableEq, Repr

/-- A keyed composite in progress (R308): its key, the values still to come after the one being decoded, those so far. -/
structure Keyed where
  key : Text
  left : Nat
  vals : List Value
  deriving DecidableEq, Repr

/-- A Value Decoder composite in progress (R352): the elements still to come after the one being decoded, those so far. -/
structure SeqFrame where
  left : Nat
  items : List Value
  deriving DecidableEq, Repr

/-- Where an attempt stands in the fixed step order (R252), with that step's loop counter. -/
inductive Phase where
  /-- Step 1: the search for the first FLAG at or after the cursor. -/
  | flag
  /-- Step 4: the frame-format byte. -/
  | format
  /-- Step 6: the client address, after `k` of its bytes. -/
  | client (k : Nat)
  /-- Step 6: the server address, after `k` of its bytes. -/
  | server (k : Nat)
  /-- Step 7: the control byte. -/
  | control
  /-- Step 11: the date-time scan, after `i` bytes. -/
  | dateTime (i : Nat)
  /-- Step 12: a top-level tag of the Payload Decoder. -/
  | payload
  /-- Step 12: the peek of a composite of `more + 1` elements (R302). -/
  | peek (more : Nat)
  /-- Step 12: a tag of the Value Decoder, for a keyed composite, with the Value Decoder's open composites, innermost
  first. -/
  | value (kv : Keyed) (calls : List SeqFrame)
  deriving DecidableEq, Repr

/-- The working registers of one attempt (R51) and its decoder call stack (R59). It exists only while an attempt runs. -/
structure Attempt where
  /-- Fi: the index of the first FLAG. -/
  fi : Nat
  /-- S: startOffset, the index of the frame-format byte. -/
  startOff : Nat
  /-- C: the cursor (R52). -/
  c : Nat
  /-- FMT: the frame-format class, 0 to 8. -/
  fmt : Nat
  /-- DLEN: the declared length, -1 to 2047. -/
  dlen : Int
  /-- SEG: the segmentation flag. -/
  seg : Bool
  /-- ADDR_C: the client address. -/
  addrC : BitVec 32
  /-- ADDR_S: the server address. -/
  addrS : BitVec 32
  /-- CTRL: the control byte. -/
  ctrl : Byte
  /-- HCS as read. -/
  hcs : BitVec 16
  /-- FCS as read. -/
  fcs : BitVec 16
  /-- DT: the date-time field's data. -/
  dt : List Byte
  /-- The step the attempt stands at. -/
  phase : Phase
  /-- The Payload Decoder's call stack, innermost caller first. -/
  merges : List MergeFrame
  deriving DecidableEq, Repr

/-- The response a transaction returns to the host (30_encoding.md R134). -/
structure Response where
  valid : Bool
  record : Record
  deriving DecidableEq, Repr

/-- The whole machine. `inbox` and `response` are the model's own (logs 2, 3): the host's side of the transaction port. -/
structure State where
  /-- BUF (R40). -/
  buf : Memory
  /-- LATEST (R42). -/
  latest : Record
  /-- LATEST_VALID (R43). -/
  latestValid : Bool
  /-- STATUS (R47, R501). -/
  status : BitVec 4
  /-- OUT (R48), oldest first. -/
  out : List Record
  /-- The attempt that runs, if one does: none between transactions (R51, R59). -/
  attempt : Option Attempt
  /-- The requests the host has issued and the block has not yet performed, oldest first (log 2). -/
  inbox : List HostRequest
  /-- The response of the last transaction, none where it has none (R134, log 3). -/
  response : Option Response
  deriving DecidableEq, Repr

/-- The state after power-up (R600). `inbox` and `response` are the model's own: empty, DESIGN CHOICE (logs 2, 3). -/
def State.reset : State where
  buf := []
  latest := Record.default
  latestValid := false
  status := 0#4
  out := []
  attempt := none
  inbox := []
  response := none

/-- Why the machine would stop. The spec has no fatal condition (R506). -/
inductive Fault where
  /-- Raised by PUSH alone, if an attempt outran the step budget that its buffer gives it. No attempt does (log 12): the
  budget counts two steps a byte. Safe: the model would stop where the block goes on. -/
  | attemptUnfinished
  deriving DecidableEq, Repr

/-- Why an instruction has no transition. -/
inductive Refusal where
  /-- Raised by `exec` for a row that has no meaning yet; no row is left so. Safe. -/
  | notModelled (mnemonic : String)
  /-- Raised by PUSH for a chunk longer than MAX_CHUNK: outside the interface, the run's refusal mark (R201, U1). Safe. -/
  | chunkTooLong
  /-- Raised by PUSH, READ_LATEST and RESET while an attempt runs: transactions do not overlap (R211, U2). Safe. -/
  | overlappingTransaction
  /-- Raised by a byte row executed where its decode position does not stand: the bytes are then another instruction
  (R132, log 11). `step` never does that. Safe. -/
  | notAtPosition
  deriving DecidableEq, Repr

end Sys2Proof.Machine
end

