-- ==== Sys2Proof/Machine/Operands.lean ====
section
/-! DEFINITION. The operand forms: reads of the attempt's byte view and the assembly of multi-byte operands
(20_memory.md R82-R88, 30_encoding.md R130, 00_scope.md R21-R24). -/

namespace Sys2Proof.Machine

/-- `buf[i..j)` (R22): empty when `j <= i`. -/
def slice (view : List Byte) (i j : Nat) : List Byte := (view.drop i).take (j - i)

/-- MemRead (R82): the bytes, or none for DecodeOOB. -/
def memRead (view : List Byte) (addr n : Nat) : Option (List Byte) :=
  if addr + n > view.length then none else some (slice view addr (addr + n))

/-- rd8 (R24): one byte. -/
def rd8 (view : List Byte) (addr : Nat) : Option Byte := (memRead view addr 1).bind List.head?

/-- be (R23): the unsigned big-endian value of a byte string. -/
def be (bs : List Byte) : Nat := bs.foldl (fun acc b => acc * 256 + b.toNat) 0

/-- sext_N (R21): an N-bit unsigned number read as two's complement. -/
def sext (n v : Nat) : Int := if v ≥ 2 ^ (n - 1) then (v : Int) - 2 ^ n else v

/-- le16 (R23): two bytes, low byte first. -/
def le16 (lo hi : Byte) : BitVec 16 := hi ++ lo

/-- A CRC field at an address (R126), little-endian. -/
def le16At (view : List Byte) (addr : Nat) : Option (BitVec 16) :=
  match memRead view addr 2 with
  | some [lo, hi] => some (le16 lo hi)
  | _ => none

/-- A length-prefixed byte string (R362): the length byte at `addr`, then its bytes. -/
def readString (view : List Byte) (addr : Nat) : Option (List Byte) :=
  (rd8 view addr).bind fun len => memRead view (addr + 1) len.toNat

/-- One more byte of an address (R130, R236). -/
def accumulateAddress (acc : BitVec 32) (b : Byte) : BitVec 32 := acc <<< 8 ||| b.setWidth 32

/-- The width in bytes of an integer kind (R355-R366). -/
def intWidth : IntKind → Nat
  | .i8 => 1
  | .u8 => 1
  | .i16 => 2
  | .u16 => 2
  | .i32 => 4
  | .u32 => 4
  | .i64 => 8
  | .u64 => 8

/-- Whether an integer kind is signed. -/
def intSigned : IntKind → Bool
  | .i8 => true
  | .u8 => false
  | .i16 => true
  | .u16 => false
  | .i32 => true
  | .u32 => false
  | .i64 => true
  | .u64 => false

/-- The integer that the big-endian bytes of a kind stand for (R130, R355). -/
def intOfBytes (k : IntKind) (bs : List Byte) : Int :=
  if intSigned k then sext (8 * intWidth k) (be bs) else be bs

/-- UNIT_TABLE (R380, D48): the pinned codes, the unmapped codes, and the open parameter for the rest. -/
def unitTable (code : Byte) : Option Text :=
  if code = 1#8 then some (ascii ['a'])
  else if code = 27#8 then some (ascii ['W'])
  else if code = 44#8 then some (ascii ['H', 'z'])
  else if code = 0#8 ∨ code.toNat ≥ 73 then none
  else Config.unitTableOpen code

/-- The symbol of a unit code (R373): UNIT_DEFAULT where the code is unmapped. -/
def unitSymbol (code : Byte) : Text := (unitTable code).getD Config.params.unitDefault

/-- The items of a sequence as a list. -/
def ValueSeq.toList : ValueSeq → List Value
  | .nil => []
  | .cons v rest => v :: ValueSeq.toList rest

/-- A list of values as the items of a sequence. -/
def ValueSeq.ofList : List Value → ValueSeq
  | [] => .nil
  | v :: rest => .cons v (ValueSeq.ofList rest)

end Sys2Proof.Machine
end

