-- ==== Sys2Proof/Machine/Flags.lean ====
section
/-! DEFINITION. STATUS codes and their classes (60_exceptions.md R500-R507), and the CRC function that decides two of them
(41_frame_sync.md R240). No arithmetic sets a flag (10_state.md R53). -/

namespace Sys2Proof.Machine

/-- The STATUS code of an outcome (R500). Codes 10 to 15 are never written. -/
def ParseOutcome.code : ParseOutcome → BitVec 4
  | .recordOk => 1#4
  | .insuffNoFlag => 2#4
  | .insuffShort => 3#4
  | .insuffIncomplete => 4#4
  | .hcsMismatch => 5#4
  | .fcsMismatch => 6#4
  | .formatUnsupported => 7#4
  | .decodeFail => 8#4
  | .decodeOob => 9#4

/-- STATUS after RESET: IDLE (R500). -/
def statusIdle : BitVec 4 := 0#4

/-- What the log sink would make of an outcome (R507). -/
inductive LogClass where
  /-- A resynchronization failure. -/
  | warning
  /-- A decode failure: the frame's bytes are consumed, its record discarded. -/
  | drop
  /-- Neither. -/
  | quiet
  deriving DecidableEq, Repr

/-- The class computed from a STATUS code (R507). -/
def logClass (status : BitVec 4) : LogClass :=
  if status = 5#4 ∨ status = 6#4 ∨ status = 7#4 then .warning
  else if status = 8#4 ∨ status = 9#4 then .drop
  else .quiet

/-- One turn of the CRC's bit loop (R240). PRESUMED (log 14): the reflected realisation of R16's parameters. -/
def crcBit (crc : BitVec 16) : BitVec 16 :=
  if crc.getLsbD 0 then crc >>> 1 ^^^ Config.params.crcPolyReflected else crc >>> 1

/-- `k` turns of the bit loop. -/
def crcBits : Nat → BitVec 16 → BitVec 16
  | 0, crc => crc
  | k + 1, crc => crcBits k (crcBit crc)

/-- One byte of the CRC: xor into the low bits, then eight turns (R240). -/
def crcByte (crc : BitVec 16) (b : Byte) : BitVec 16 := crcBits 8 (crc ^^^ b.setWidth 16)

/-- CRC16X25 (R240). -/
def crc16 (bs : List Byte) : BitVec 16 := bs.foldl crcByte Config.params.crcInit ^^^ Config.params.crcXorOut

end Sys2Proof.Machine
end

