-- ==== Sys2Proof/Machine/Render.lean ====
section
/-! DEFINITION. The rendering functions of 00_scope.md R25 and the text forms of 10_state.md R44. The block carries bytes;
the text is part of the observation. -/

namespace Sys2Proof.Machine

/-- The ASCII digit of a number below 16, lowercase (R25, D13). -/
def hexDigit (n : Nat) : Byte := BitVec.ofNat 8 (if n < 10 then 0x30 + n else 0x57 + n)

/-- hex (R25): two lowercase digits a byte, high nibble first. -/
def hex (bs : List Byte) : Text := bs.flatMap fun b => [hexDigit (b.toNat / 16), hexDigit (b.toNat % 16)]

/-- The decimal digits of a number, most significant first, with a budget that `decNat` makes large enough. -/
def decDigits : Nat → Nat → Text
  | 0, _ => []
  | fuel + 1, n =>
    if n < 10 then [hexDigit n] else decDigits fuel (n / 10) ++ [hexDigit (n % 10)]

/-- The shortest decimal numeral of a natural number. -/
def decNat (n : Nat) : Text := decDigits (n + 1) n

/-- dec (R25): the shortest decimal numeral, with a leading '-' when negative. -/
def dec (n : Int) : Text := if n < 0 then 0x2D#8 :: decNat n.natAbs else decNat n.natAbs

/-- pad2 (R25): a leading '0' for 0 to 9, and never truncated. -/
def pad2 (n : Nat) : Text := if n ≤ 9 then 0x30#8 :: decNat n else decNat n

/-- The eight characters of a bit-string, bit 7 first (R367). -/
def bitText (b : Byte) : Text := (List.range 8).map fun i => if b.getLsbD (7 - i) then 0x31#8 else 0x30#8

/-- A printable ASCII byte (R363). -/
def printable (b : Byte) : Bool := decide (0x20 ≤ b.toNat) && decide (b.toNat ≤ 0x7E)

/-- A UTF-8 continuation byte in a range. -/
def contByte (lo hi : Nat) (b : Byte) : Bool := decide (lo ≤ b.toNat) && decide (b.toNat ≤ hi)

/-- Whether a byte string is valid UTF-8. PRESUMED (log 7): the Unicode standard's table of well-formed byte sequences. -/
def utf8Valid : List Byte → Bool
  | [] => true
  | b0 :: [] => decide (b0.toNat ≤ 0x7F)
  | b0 :: b1 :: rest =>
    if b0.toNat ≤ 0x7F then utf8Valid (b1 :: rest)
    else if b0.toNat < 0xC2 then false
    else if b0.toNat ≤ 0xDF then contByte 0x80 0xBF b1 && utf8Valid rest
    else
      match rest with
      | [] => false
      | b2 :: rest =>
        if b0.toNat ≤ 0xEF then
          contByte (if b0 = 0xE0#8 then 0xA0 else 0x80) (if b0 = 0xED#8 then 0x9F else 0xBF) b1
            && contByte 0x80 0xBF b2 && utf8Valid rest
        else
          match rest with
          | [] => false
          | b3 :: rest =>
            if b0.toNat ≤ 0xF4 then
              contByte (if b0 = 0xF0#8 then 0x90 else 0x80) (if b0 = 0xF4#8 then 0x8F else 0xBF) b1
                && contByte 0x80 0xBF b2 && contByte 0x80 0xBF b3 && utf8Valid rest
            else false

/-- The ASCII text of a visible-string (R363); the open parameter RENDER_TEXT where a byte is not printable ASCII (U6). -/
def visibleText (bs : List Byte) : Text := if bs.all printable then bs else Config.renderText bs

/-- The UTF-8 text of a utf8-string (R364); the open parameter RENDER_TEXT where the bytes are not valid UTF-8 (U6). -/
def utf8Text (bs : List Byte) : Text := if utf8Valid bs then bs else Config.renderText bs

/-- The text a value is observed as (R44), for the variants that are rendered as text or as a numeral; null, booleans and
sequences are observed as themselves. -/
def renderValue : Value → Option Text
  | .null => none
  | .bool _ => none
  | .int _ v => some (dec v)
  | .bits b => some (bitText b)
  | .octets bs => some (hex bs)
  | .visible bs => some (visibleText bs)
  | .utf8 bs => some (utf8Text bs)
  | .bcd b => some (hex [b])
  | .unit sym => some sym
  | .datetime bs => some (hex bs)
  | .date bs => some (hex bs)
  | .time bs => some (hex bs)
  | .seq _ => none
  | .scaled m e => some (Config.renderScaled m e)
  | .text s => some s

/-- The text a record's date-time field is observed as (R45, R243). -/
def renderDateTime (r : Record) : Text := hex r.header.dateTime

end Sys2Proof.Machine
end

