-- ==== Sys2Proof/Machine/Mapping.lean ====
section
/-! DEFINITION. The payload mapping and its post-processing: OBIS, CLASS3, CLOCK, INSERT (42_payload_decoder.md
R312-R316). -/

namespace Sys2Proof.Machine

/-- The separator before byte `i` of an OBIS code (R312). -/
def obisSeparator (i : Nat) : Text :=
  if i = 0 then [] else if i = 1 then [0x2D#8] else if i = 2 then [0x3A#8] else [0x2E#8]

/-- OBIS text of the bytes from index `i` on. -/
def obisFrom (i : Nat) : List Byte → Text
  | [] => []
  | b :: rest => obisSeparator i ++ decNat b.toNat ++ obisFrom (i + 1) rest

/-- OBIS (R312): `A-B:C.D.E.F`, unsigned decimal without padding. -/
def obis (bs : List Byte) : Text := obisFrom 0 bs

/-- The clock text of a 12-byte octet-string (R314): bytes 4 and 8 to 11 are dropped. -/
def clockText : List Byte → Option Text
  | [y1, y0, month, day, _, hour, minute, second, _, _, _, _] =>
    some (decNat (y1.toNat * 256 + y0.toNat) ++ 0x2D#8 :: pad2 month.toNat ++ 0x2D#8 :: pad2 day.toNat
      ++ 0x20#8 :: pad2 hour.toNat ++ 0x3A#8 :: pad2 minute.toNat ++ 0x3A#8 :: pad2 second.toNat)
  | _ => none

/-- CLOCK (R314). -/
def clock (key : Text) (vals : List Value) : List Value :=
  match vals with
  | .octets b :: rest =>
    if key = Config.params.clockKey then
      match clockText b with
      | some t => .text t :: rest
      | none => vals
    else vals
  | _ => vals

/-- CLASS3 (R313). -/
def class3 (vals : List Value) : List Value :=
  match vals with
  | [.int _ v, .seq (.cons (.int _ s) (.cons unit .nil))] => [.scaled v s, unit]
  | _ => vals

/-- INSERT (R316): a known key's values are replaced in place, a new key is appended. -/
def insertEntry : Payload → Text → List Value → Payload
  | [], k, v => [{ key := k, vals := v }]
  | e :: rest, k, v => if e.key = k then { key := k, vals := v } :: rest else e :: insertEntry rest k v

/-- The entries of `new` inserted in order into `m` (R303, R315). -/
def mergeEntries (m new : Payload) : Payload := new.foldl (fun acc e => insertEntry acc e.key e.vals) m

/-- The one-entry payload of a finished keyed composite (R308): CLOCK, then CLASS3, then INSERT into the empty mapping. -/
def keyedPayload (key : Text) (vals : List Value) : Payload := insertEntry [] key (class3 (clock key vals))

end Sys2Proof.Machine
end

