-- ==== Sys2Proof/Machine/Ops.lean ====
section
/-! DEFINITION. The named operations over memory and over an attempt: the buffer's append, drop-front and clear
(20_memory.md R89-R91), the end of an attempt with an outcome, which is this block's counterpart of taking an exception
(60_exceptions.md R500, R504), the fetch of a byte row, and the delivery of decoded values to their callers. -/

namespace Sys2Proof.Machine

/-! ### Memory -/

/-- The pairs of a byte list at addresses from `a` on. -/
def Memory.ofBytesFrom (a : Nat) : List Byte → Memory
  | [] => []
  | b :: bs => (a, b) :: Memory.ofBytesFrom (a + 1) bs

/-- The memory that holds a byte list at addresses 0, 1, 2, … (R40). -/
def Memory.ofBytes (bs : List Byte) : Memory := Memory.ofBytesFrom 0 bs

/-- The byte view of a memory (R81), index 0 the oldest byte. -/
def Memory.bytes (m : Memory) : List Byte := m.map Prod.snd

/-- len(BUF) (R40). -/
def Memory.size (m : Memory) : Nat := m.length

/-- The byte at an address, none where it does not exist (R80, R82). -/
def Memory.read (m : Memory) (a : Nat) : Option Byte := (m.find? fun cell => cell.1 == a).map Prod.snd

/-- The canonical form: addresses 0, 1, 2, … in order, and at most MAX_BUFFER bytes (R40, R41). -/
def Memory.wf (m : Memory) : Bool :=
  decide (m = Memory.ofBytes m.bytes) && decide (m.size ≤ Config.params.maxBuffer)

/-- Append (R89). -/
def Memory.append (m : Memory) (chunk : List Byte) : Memory := Memory.ofBytes (m.bytes ++ chunk)

/-- Drop-front (R90): `BUF[k..]`, renumbered from 0. -/
def Memory.dropFront (m : Memory) (k : Nat) : Memory := Memory.ofBytes (m.bytes.drop k)

/-- Clear (R91). -/
def Memory.clear : Memory := []

/-- The commit trim (R246) for any trim distance: the bytes from `cf + skip` on, or none where that runs past the end. -/
def Memory.commitTrim (skip : Nat) (m : Memory) (cf : Nat) : Memory :=
  if cf + skip ≥ m.size then Memory.clear else m.dropFront (cf + skip)

/-! ### Attempts: start, going on, ending with an outcome -/

/-- An attempt at its start: the cursor at index 0 (R93) and the flag search next. Registers not yet written hold 0, which
nothing reads: DESIGN CHOICE (log 13). -/
def Attempt.start : Attempt where
  fi := 0
  startOff := 0
  c := 0
  fmt := 0
  dlen := -1
  seg := false
  addrC := 0#32
  addrS := 0#32
  ctrl := 0#8
  hcs := 0#16
  fcs := 0#16
  dt := []
  phase := .flag
  merges := []

/-- The step an attempt stands at to read a row at a decode position, with nothing read before it (log 8): a value is then
the one value of a composite under DEFAULT_KEY. -/
def Position.phase : Position → Phase
  | .flag => .flag
  | .format => .format
  | .address => .client 0
  | .control => .control
  | .dateTime => .dateTime 0
  | .payload => .payload
  | .peek => .peek 0
  | .value => .value { key := Config.params.defaultKey, left := 0, vals := [] } []

/-- An attempt that stands at index 0, at a decode position. -/
def Attempt.standingAt (p : Position) : Attempt := { Attempt.start with phase := Position.phase p }

/-- The attempt goes on with these registers. -/
def State.resume (s : State) (a : Attempt) : State := { s with attempt := some a }

/-- The end of an attempt with an outcome (R500, R504): STATUS takes its code, BUF becomes `newBuf`, the working registers
cease to exist, and nothing else changes. -/
def State.endAttempt (s : State) (oc : ParseOutcome) (newBuf : Memory) : State :=
  { s with buf := newBuf, status := oc.code, attempt := none }

/-- Insufficient data (R230, R233, R235): BUF is untouched. -/
def State.endInsufficient (s : State) (oc : ParseOutcome) : State := s.endAttempt oc s.buf

/-- A resynchronization failure (R241): BUF is cut to start at S. -/
def State.endResync (s : State) (a : Attempt) (oc : ParseOutcome) : State :=
  s.endAttempt oc (s.buf.dropFront a.startOff)

/-- DECODE_FAIL at the failure cursor `cf` (R245, R246). -/
def State.raiseFail (s : State) (cf : Nat) : State :=
  s.endAttempt .decodeFail (Memory.commitTrim Config.params.trimSkip s.buf cf)

/-- DECODE_OOB (R82, R245, R246): the final cursor is L, so the trim clears BUF. -/
def State.raiseOob (s : State) : State :=
  s.endAttempt .decodeOob (Memory.commitTrim Config.params.trimSkip s.buf s.buf.size)

/-- The record of an attempt that decoded `payload` (R247): its header is the working registers. -/
def Attempt.record (a : Attempt) (payload : Payload) : Record where
  header := {
    encoding := Config.params.encodingTag
    frameFormat := a.fmt
    segmentation := a.seg
    dataLength := a.dlen
    clientAddress := a.addrC
    serverAddress := a.addrS
    control := a.ctrl
    headerCrc := a.hcs
    frameCrc := a.fcs
    dateTime := a.dt }
  payload := payload

/-- RECORD_OK (R200, R206, R246, R247): the trim at the cursor, and the record stored and emitted. -/
def State.publish (s : State) (a : Attempt) (payload : Payload) : State :=
  { s.endAttempt .recordOk (Memory.commitTrim Config.params.trimSkip s.buf a.c) with
    latest := a.record payload
    latestValid := true
    out := s.out ++ [a.record payload] }

/-! ### Fetch -/

/-- The decode position of a step (30_encoding.md, opening). -/
def Phase.position : Phase → Position
  | .flag => .flag
  | .format => .format
  | .client _ => .address
  | .server _ => .address
  | .control => .control
  | .dateTime _ => .dateTime
  | .payload => .payload
  | .peek _ => .peek
  | .value _ _ => .value

/-- The least index at or after `c` that holds FLAG (R230). -/
def findFlag (view : List Byte) (c : Nat) : Option Nat :=
  ((view.drop c).findIdx? fun b => b == Config.params.flag).map fun i => c + i

/-- What stands at the cursor of an attempt. -/
inductive Fetched where
  /-- An instruction, with the attempt that executes it. -/
  | instr (i : Instr) (a : Attempt)
  /-- No FLAG in the buffer (R230). -/
  | noFlag
  /-- The instruction's bytes run past the buffer's end (R82). -/
  | outOfBounds
  deriving DecidableEq, Repr

/-- Reads the instruction at the cursor, at the decode position of the attempt's step. The flag search moves the cursor to
the first FLAG; every other step reads at the cursor as it stands. -/
def State.fetch (s : State) (a : Attempt) : Fetched :=
  match a.phase with
  | .flag =>
    match findFlag s.buf.bytes a.c with
    | none => .noFlag
    | some i => .instr .flag { a with c := i }
  | _ =>
    match decodeAt a.phase.position (s.buf.bytes.drop a.c) with
    | .ok (i, _) => .instr i a
    | .error _ => .outOfBounds

/-! ### Delivery: a decoded element returns to its caller (R59, R252) -/

/-- A Payload Decoder call returns a mapping (R303): to the innermost merge branch, which inserts it and goes on with its
next element or returns in turn; with no caller left the frame is decoded (R244, R247). -/
def State.deliverPayload (s : State) (a : Attempt) : Payload → List MergeFrame → State
  | p, [] => s.publish a p
  | p, m :: ms =>
    match m.left with
    | 0 => s.deliverPayload a (mergeEntries m.entries p) ms
    | n + 1 =>
      s.resume { a with phase := .payload, merges := { left := n, entries := mergeEntries m.entries p } :: ms }

/-- A keyed composite has all its values (R308). -/
def State.finishKeyed (s : State) (a : Attempt) (key : Text) (vals : List Value) : State :=
  s.deliverPayload a (keyedPayload key vals) a.merges

/-- A Value Decoder call returns a value (R308, R352): to the innermost open composite, or to the keyed composite. -/
def State.deliverValue (s : State) (a : Attempt) (kv : Keyed) : Value → List SeqFrame → State
  | v, [] =>
    match kv.left with
    | 0 => s.finishKeyed a kv.key (kv.vals ++ [v])
    | n + 1 => s.resume { a with phase := .value { kv with left := n, vals := kv.vals ++ [v] } [] }
  | v, f :: fs =>
    match f.left with
    | 0 => s.deliverValue a kv (.seq (ValueSeq.ofList (f.items ++ [v]))) fs
    | n + 1 => s.resume { a with phase := .value kv ({ left := n, items := f.items ++ [v] } :: fs) }

/-- The `count` values of a keyed composite are decoded next, or it is finished at once (R307, R308, D47). -/
def State.beginKeyed (s : State) (a : Attempt) (key : Text) (count : Nat) : State :=
  match count with
  | 0 => s.finishKeyed a key []
  | n + 1 => s.resume { a with phase := .value { key := key, left := n, vals := [] } [] }

/-! ### Executing at a decode position

A byte row is an instruction only where its position stands (R132); elsewhere it is refused (log 11). -/

/-- Runs `k` when the attempt stands at the flag position. -/
def State.atFlag (s : State) (k : Attempt → State) : Host.Outcome State Fault Refusal :=
  match s.attempt with
  | none => .refused .notAtPosition
  | some a =>
    match a.phase with
    | .flag => .next (k a)
    | _ => .refused .notAtPosition

/-- Runs `k` when the attempt stands at the frame-format position. -/
def State.atFormat (s : State) (k : Attempt → State) : Host.Outcome State Fault Refusal :=
  match s.attempt with
  | none => .refused .notAtPosition
  | some a =>
    match a.phase with
    | .format => .next (k a)
    | _ => .refused .notAtPosition

/-- Runs `client` or `server` when the attempt stands in that address, with the count of its bytes read. -/
def State.atAddress (s : State) (client server : Attempt → Nat → State) : Host.Outcome State Fault Refusal :=
  match s.attempt with
  | none => .refused .notAtPosition
  | some a =>
    match a.phase with
    | .client n => .next (client a n)
    | .server n => .next (server a n)
    | _ => .refused .notAtPosition

/-- Runs `k` when the attempt stands at the control byte. -/
def State.atControl (s : State) (k : Attempt → State) : Host.Outcome State Fault Refusal :=
  match s.attempt with
  | none => .refused .notAtPosition
  | some a =>
    match a.phase with
    | .control => .next (k a)
    | _ => .refused .notAtPosition

/-- Runs `k` when the attempt stands in the date-time scan, with the count of bytes scanned. -/
def State.atDateTime (s : State) (k : Attempt → Nat → State) : Host.Outcome State Fault Refusal :=
  match s.attempt with
  | none => .refused .notAtPosition
  | some a =>
    match a.phase with
    | .dateTime i => .next (k a i)
    | _ => .refused .notAtPosition

/-- Runs `k` when the attempt stands at a top-level tag. -/
def State.atPayload (s : State) (k : Attempt → State) : Host.Outcome State Fault Refusal :=
  match s.attempt with
  | none => .refused .notAtPosition
  | some a =>
    match a.phase with
    | .payload => .next (k a)
    | _ => .refused .notAtPosition

/-- Runs `k` when the attempt stands at a peek, with the composite's count less one. -/
def State.atPeek (s : State) (k : Attempt → Nat → State) : Host.Outcome State Fault Refusal :=
  match s.attempt with
  | none => .refused .notAtPosition
  | some a =>
    match a.phase with
    | .peek more => .next (k a more)
    | _ => .refused .notAtPosition

/-- Runs `k` when the attempt stands at a value's tag, with the keyed composite and the open composites. -/
def State.atValue (s : State) (k : Attempt → Keyed → List SeqFrame → State) : Host.Outcome State Fault Refusal :=
  match s.attempt with
  | none => .refused .notAtPosition
  | some a =>
    match a.phase with
    | .value kv calls => .next (k a kv calls)
    | _ => .refused .notAtPosition

end Sys2Proof.Machine
end

