-- ==== Sys2Proof/Machine/FrameSync.lean ====
section
/-! DEFINITION. The Frame Synchronizer and Header Parser: the meanings of FLAG, FMT_*, ADDR_*, CTRL and DT_*
(41_frame_sync.md R230-R243). -/

namespace Sys2Proof.Machine

/-- FLAG (R230-R233): Fi is the cursor, the idle-fill flags after it are skipped, S is the byte after them, and the
minimum-length guard decides whether the header is parsed. -/
def execFlag (s : State) : Host.Outcome State Fault Refusal :=
  s.atFlag fun a =>
    let view := s.buf.bytes
    let run := ((view.drop (a.c + 1)).takeWhile fun b => b == Config.params.flag).length
    let start := a.c + 1 + run
    if view.length < start + Config.params.minFrameBytes then s.endInsufficient .insuffShort
    else s.resume { a with fi := a.c, startOff := start, c := start, phase := .format }

/-- Steps 4 and 5 for a format whose length is declared (R234, R235): FMT, SEG and DLEN are written, the cursor moves past
the format bytes, and the completeness guard decides whether the addresses are parsed. -/
def State.setFormat (s : State) (a : Attempt) (fmt : Nat) (seg : Bool) (dlen width : Nat) : State :=
  if a.startOff + dlen < s.buf.size then
    s.resume { a with
      fmt := fmt, seg := seg, dlen := dlen, c := a.c + width, addrC := 0#32, phase := .client 0 }
  else s.endInsufficient .insuffIncomplete

/-- The extended form (R122): FMT = 1 + b1[6:4]. -/
def State.setExtFormat (s : State) (cls : Nat) (seg : Bool) (len : Nat) : Host.Outcome State Fault Refusal :=
  s.atFormat fun a => s.setFormat a (1 + cls) seg len 2

/-- An unsupported format byte (R123, R234): FORMAT_UNSUPPORTED with the resynchronization trim. FMT = 8 and DLEN = -1 end
with the attempt. -/
def State.unsupportedFormat (s : State) : Host.Outcome State Fault Refusal :=
  s.atFormat fun a => s.endResync a .formatUnsupported

/-- FMT_SHORT (R121, R234). -/
def execFmtShort (len : BitVec 7) (s : State) : Host.Outcome State Fault Refusal :=
  s.atFormat fun a => s.setFormat a 0 false len.toNat 1

/-- FMT_EXT, class bits 0 to 3 (R122, R234). -/
def execFmtExt80BF (cls : BitVec 2) (seg : Bool) (len : BitVec 11) (s : State) : Host.Outcome State Fault Refusal :=
  s.setExtFormat cls.toNat seg len.toNat

/-- FMT_EXT, class bits 4 and 5 (R122, R234). -/
def execFmtExtC0DF (cls : BitVec 1) (seg : Bool) (len : BitVec 11) (s : State) : Host.Outcome State Fault Refusal :=
  s.setExtFormat (4 + cls.toNat) seg len.toNat

/-- FMT_EXT, class bits 6 (R122, R234). -/
def execFmtExtE0EF (seg : Bool) (len : BitVec 11) (s : State) : Host.Outcome State Fault Refusal :=
  s.setExtFormat 6 seg len.toNat

/-- FMT_EXT 0xF0 (R122, R234): class 8, not segmented, DLEN = b2. -/
def execFmtExtF0F0 (len : BitVec 8) (s : State) : Host.Outcome State Fault Refusal :=
  s.setExtFormat 7 false len.toNat

/-- FMT_UNSUP 0xF1 (R234). -/
def execFmtUnsupF1F1 (s : State) : Host.Outcome State Fault Refusal := s.unsupportedFormat

/-- FMT_UNSUP 0xF2..0xF3 (R234). -/
def execFmtUnsupF2F3 (s : State) : Host.Outcome State Fault Refusal := s.unsupportedFormat

/-- FMT_UNSUP 0xF4..0xF7 (R234). -/
def execFmtUnsupF4F7 (s : State) : Host.Outcome State Fault Refusal := s.unsupportedFormat

/-- FMT_UNSUP 0xF8..0xFF (R234). -/
def execFmtUnsupF8FF (s : State) : Host.Outcome State Fault Refusal := s.unsupportedFormat

/-- An address byte (R236): the whole byte enters the address, and the address ends at its last byte (`last`) or its
fourth; the server address follows the client's, the control byte follows the server's. -/
def State.addressStep (s : State) (b : Byte) (last : Bool) : Host.Outcome State Fault Refusal :=
  s.atAddress
    (fun a k =>
      let a := { a with addrC := accumulateAddress a.addrC b, c := a.c + 1 }
      if last || decide (k + 1 ≥ Config.params.addrMaxBytes) then
        s.resume { a with addrS := 0#32, phase := .server 0 }
      else s.resume { a with phase := .client (k + 1) })
    (fun a k =>
      let a := { a with addrS := accumulateAddress a.addrS b, c := a.c + 1 }
      if last || decide (k + 1 ≥ Config.params.addrMaxBytes) then s.resume { a with phase := .control }
      else s.resume { a with phase := .server (k + 1) })

/-- ADDR_MORE (R124, R236). -/
def execAddrMore (hi : BitVec 7) (s : State) : Host.Outcome State Fault Refusal :=
  s.addressStep (addressByte hi 0#1) false

/-- ADDR_LAST (R124, R236). -/
def execAddrLast (hi : BitVec 7) (s : State) : Host.Outcome State Fault Refusal :=
  s.addressStep (addressByte hi 1#1) true

/-- Step 9 (R239), and step 10 (R242) where it passes. The cursor is at the HCS. -/
def State.checkFrameCrc (s : State) (a : Attempt) : State :=
  let view := s.buf.bytes
  if a.dlen < 2 then s.endResync a .fcsMismatch
  else
    let p := (a.startOff + a.dlen - 2).toNat
    match le16At view p with
    | none => s.raiseOob
    | some fcs =>
      if crc16 (slice view a.startOff p) = fcs then
        s.resume { a with
          fcs := fcs
          c := a.c + 2 + Config.params.llcBytes + Config.params.apduSkipBytes + Config.params.apduTypeBytes
          phase := .dateTime 0 }
      else s.endResync a .fcsMismatch

/-- Step 8 (R238), and step 9 where it passes. The cursor is at the HCS. -/
def State.checkHeaderCrc (s : State) (a : Attempt) : State :=
  let view := s.buf.bytes
  match le16At view a.c with
  | none => s.raiseOob
  | some hcs =>
    if crc16 (slice view a.startOff a.c) = hcs then s.checkFrameCrc { a with hcs := hcs }
    else s.endResync a .hcsMismatch

/-- CTRL (R237): stored verbatim. The two CRC checks and the fixed skips (R238, R239, R242) have no row of their own and
follow it. -/
def execCtrl (b : Byte) (s : State) : Host.Outcome State Fault Refusal :=
  s.atControl fun a => s.checkHeaderCrc { a with ctrl := b, c := a.c + 1 }

/-- The date-time field whose length byte is at the cursor (R243). -/
def State.dateTimeField (s : State) (a : Attempt) (len : Nat) : State :=
  match memRead s.buf.bytes (a.c + 1) len with
  | none => s.raiseOob
  | some data => s.resume { a with dt := data, c := a.c + 1 + len, phase := .payload, merges := [] }

/-- A scan byte that is no marker (R243): skipped while fewer than DT_SCAN_LIMIT bytes have been scanned, and the length
byte after them. -/
def State.dateTimeSkip (s : State) (b : Byte) : Host.Outcome State Fault Refusal :=
  s.atDateTime fun a i =>
    if i < Config.params.dtScanLimit then s.resume { a with c := a.c + 1, phase := .dateTime (i + 1) }
    else s.dateTimeField a b.toNat

/-- DT_MARKER_EMPTY (R127, R243): length 0. -/
def execDtMarkerEmpty (s : State) : Host.Outcome State Fault Refusal := s.atDateTime fun a _ => s.dateTimeField a 0

/-- DT_MARKER_12 (R127, R243): length 12. -/
def execDtMarker12 (s : State) : Host.Outcome State Fault Refusal := s.atDateTime fun a _ => s.dateTimeField a 12

/-- DT_SKIP 0x01 (R243). -/
def execDtSkip0101 (s : State) : Host.Outcome State Fault Refusal := s.dateTimeSkip 0x01#8

/-- DT_SKIP 0x02..0x03 (R243). -/
def execDtSkip0203 (low : BitVec 1) (s : State) : Host.Outcome State Fault Refusal :=
  s.dateTimeSkip (classByte 0x02#8 low)

/-- DT_SKIP 0x04..0x07 (R243). -/
def execDtSkip0407 (low : BitVec 2) (s : State) : Host.Outcome State Fault Refusal :=
  s.dateTimeSkip (classByte 0x04#8 low)

/-- DT_SKIP 0x08..0x0B (R243). -/
def execDtSkip080B (low : BitVec 2) (s : State) : Host.Outcome State Fault Refusal :=
  s.dateTimeSkip (classByte 0x08#8 low)

/-- DT_SKIP 0x0D (R243). -/
def execDtSkip0D0D (s : State) : Host.Outcome State Fault Refusal := s.dateTimeSkip 0x0D#8

/-- DT_SKIP 0x0E..0x0F (R243). -/
def execDtSkip0E0F (low : BitVec 1) (s : State) : Host.Outcome State Fault Refusal :=
  s.dateTimeSkip (classByte 0x0E#8 low)

/-- DT_SKIP 0x10..0x1F (R243). -/
def execDtSkip101F (low : BitVec 4) (s : State) : Host.Outcome State Fault Refusal :=
  s.dateTimeSkip (classByte 0x10#8 low)

/-- DT_SKIP 0x20..0x3F (R243). -/
def execDtSkip203F (low : BitVec 5) (s : State) : Host.Outcome State Fault Refusal :=
  s.dateTimeSkip (classByte 0x20#8 low)

/-- DT_SKIP 0x40..0x7F (R243). -/
def execDtSkip407F (low : BitVec 6) (s : State) : Host.Outcome State Fault Refusal :=
  s.dateTimeSkip (classByte 0x40#8 low)

/-- DT_SKIP 0x80..0xFF (R243). -/
def execDtSkip80FF (low : BitVec 7) (s : State) : Host.Outcome State Fault Refusal :=
  s.dateTimeSkip (classByte 0x80#8 low)

end Sys2Proof.Machine
end

