-- ==== Sys2Proof/Machine/PayloadDecoder.lean ====
section
/-! DEFINITION. The Payload Decoder: the meanings of PD_* and PD_PEEK_* (42_payload_decoder.md R300-R311). Its recursion is
the stack `Attempt.merges`. -/

namespace Sys2Proof.Machine

/-- An array or a structure at the top level (R302): the count, and for a composite that is not empty the peek, which leaves
the cursor on the first element's tag. -/
def State.payloadComposite (s : State) : Host.Outcome State Fault Refusal :=
  s.atPayload fun a =>
    match rd8 s.buf.bytes (a.c + 1) with
    | none => s.raiseOob
    | some n =>
      match n.toNat with
      | 0 => s.deliverPayload { a with c := a.c + 2 } [] a.merges
      | more + 1 => s.resume { a with c := a.c + 2, phase := .peek more }

/-- A top-level tag that is no payload (R310, R311): the tag is consumed and the decode fails. -/
def State.payloadFail (s : State) : Host.Outcome State Fault Refusal := s.atPayload fun a => s.raiseFail (a.c + 1)

/-- The merge branch (R303): each of the `more + 1` elements is decoded as a payload. -/
def State.payloadMerge (s : State) : Host.Outcome State Fault Refusal :=
  s.atPeek fun a more =>
    s.resume { a with phase := .payload, merges := { left := more, entries := [] } :: a.merges }

/-- The keyed branch whose key is the first element, a length-prefixed string (R304, R305, R307): the element is read as VD
reads it (log 18), and the other `more` elements are the values. -/
def State.payloadStringKey (s : State) (keyOf : List Byte → Text) : Host.Outcome State Fault Refusal :=
  s.atPeek fun a more =>
    match readString s.buf.bytes (a.c + 1) with
    | none => s.raiseOob
    | some bs => s.beginKeyed { a with c := a.c + 2 + bs.length } (keyOf bs) more

/-- The keyed branch under DEFAULT_KEY (R306, R307): no byte is consumed, and all `more + 1` elements are values. -/
def State.payloadDefaultKey (s : State) : Host.Outcome State Fault Refusal :=
  s.atPeek fun a more => s.beginKeyed a Config.params.defaultKey (more + 1)

/-- PD_NULL (R301): the empty mapping. -/
def execPdNull (s : State) : Host.Outcome State Fault Refusal :=
  s.atPayload fun a => s.deliverPayload { a with c := a.c + 1 } [] a.merges

/-- PD_ARRAY (R302). -/
def execPdArray (s : State) : Host.Outcome State Fault Refusal := s.payloadComposite

/-- PD_STRUCT (R302): as PD_ARRAY. -/
def execPdStruct (s : State) : Host.Outcome State Fault Refusal := s.payloadComposite

/-- PD_COMPACT (R310). -/
def execPdCompact (s : State) : Host.Outcome State Fault Refusal := s.payloadFail

/-- PD_OTHER 0x03 (R311). -/
def execPdOther0303 (s : State) : Host.Outcome State Fault Refusal := s.payloadFail

/-- PD_OTHER 0x04..0x07 (R311). -/
def execPdOther0407 (s : State) : Host.Outcome State Fault Refusal := s.payloadFail

/-- PD_OTHER 0x08..0x0F (R311). -/
def execPdOther080F (s : State) : Host.Outcome State Fault Refusal := s.payloadFail

/-- PD_OTHER 0x10..0x11 (R311). -/
def execPdOther1011 (s : State) : Host.Outcome State Fault Refusal := s.payloadFail

/-- PD_OTHER 0x12 (R311). -/
def execPdOther1212 (s : State) : Host.Outcome State Fault Refusal := s.payloadFail

/-- PD_OTHER 0x14..0x17 (R311). -/
def execPdOther1417 (s : State) : Host.Outcome State Fault Refusal := s.payloadFail

/-- PD_OTHER 0x18..0x1F (R311). -/
def execPdOther181F (s : State) : Host.Outcome State Fault Refusal := s.payloadFail

/-- PD_OTHER 0x20..0x3F (R311). -/
def execPdOther203F (s : State) : Host.Outcome State Fault Refusal := s.payloadFail

/-- PD_OTHER 0x40..0x7F (R311). -/
def execPdOther407F (s : State) : Host.Outcome State Fault Refusal := s.payloadFail

/-- PD_OTHER 0x80..0xFF (R311). -/
def execPdOther80FF (s : State) : Host.Outcome State Fault Refusal := s.payloadFail

/-- PD_PEEK_MERGE, first element an array (R303). -/
def execPdPeekMergeArray (s : State) : Host.Outcome State Fault Refusal := s.payloadMerge

/-- PD_PEEK_MERGE, first element a structure (R303). -/
def execPdPeekMergeStruct (s : State) : Host.Outcome State Fault Refusal := s.payloadMerge

/-- PD_PEEK_MERGE, first element a compact array (R303): the element then fails as a payload (R310). -/
def execPdPeekMergeCompact (s : State) : Host.Outcome State Fault Refusal := s.payloadMerge

/-- PD_PEEK_VISIBLE_KEY (R304): the key is the string's bytes. -/
def execPdPeekVisibleKey (s : State) : Host.Outcome State Fault Refusal := s.payloadStringKey fun bs => bs

/-- PD_PEEK_OBIS_KEY (R305): the key is the OBIS text of the bytes. -/
def execPdPeekObisKey (s : State) : Host.Outcome State Fault Refusal := s.payloadStringKey obis

/-- PD_PEEK_DEFAULT_KEY 0x00 (R306). -/
def execPdPeekDefaultKey0000 (s : State) :
    Host.Outcome State Fault Refusal := s.payloadDefaultKey

/-- PD_PEEK_DEFAULT_KEY 0x03 (R306). -/
def execPdPeekDefaultKey0303 (s : State) :
    Host.Outcome State Fault Refusal := s.payloadDefaultKey

/-- PD_PEEK_DEFAULT_KEY 0x04..0x07 (R306). -/
def execPdPeekDefaultKey0407 (s : State) :
    Host.Outcome State Fault Refusal := s.payloadDefaultKey

/-- PD_PEEK_DEFAULT_KEY 0x08 (R306). -/
def execPdPeekDefaultKey0808 (s : State) :
    Host.Outcome State Fault Refusal := s.payloadDefaultKey

/-- PD_PEEK_DEFAULT_KEY 0x0B (R306). -/
def execPdPeekDefaultKey0B0B (s : State) :
    Host.Outcome State Fault Refusal := s.payloadDefaultKey

/-- PD_PEEK_DEFAULT_KEY 0x0C..0x0F (R306). -/
def execPdPeekDefaultKey0C0F (s : State) :
    Host.Outcome State Fault Refusal := s.payloadDefaultKey

/-- PD_PEEK_DEFAULT_KEY 0x10..0x11 (R306). -/
def execPdPeekDefaultKey1011 (s : State) :
    Host.Outcome State Fault Refusal := s.payloadDefaultKey

/-- PD_PEEK_DEFAULT_KEY 0x12 (R306). -/
def execPdPeekDefaultKey1212 (s : State) :
    Host.Outcome State Fault Refusal := s.payloadDefaultKey

/-- PD_PEEK_DEFAULT_KEY 0x14..0x17 (R306). -/
def execPdPeekDefaultKey1417 (s : State) :
    Host.Outcome State Fault Refusal := s.payloadDefaultKey

/-- PD_PEEK_DEFAULT_KEY 0x18..0x1F (R306). -/
def execPdPeekDefaultKey181F (s : State) :
    Host.Outcome State Fault Refusal := s.payloadDefaultKey

/-- PD_PEEK_DEFAULT_KEY 0x20..0x3F (R306). -/
def execPdPeekDefaultKey203F (s : State) :
    Host.Outcome State Fault Refusal := s.payloadDefaultKey

/-- PD_PEEK_DEFAULT_KEY 0x40..0x7F (R306). -/
def execPdPeekDefaultKey407F (s : State) :
    Host.Outcome State Fault Refusal := s.payloadDefaultKey

/-- PD_PEEK_DEFAULT_KEY 0x80..0xFF (R306). -/
def execPdPeekDefaultKey80FF (s : State) :
    Host.Outcome State Fault Refusal := s.payloadDefaultKey

end Sys2Proof.Machine
end

