-- ==== Sys2Proof/Machine/ValueDecoder.lean ====
section
/-! DEFINITION. The A-XDR Value Decoder: the meanings of VD_* (43_axdr_value_decoder.md R350-R376). The cursor is at the
tag, which every call consumes (R351); the body is read through MemRead. Its recursion is the list of open composites of
`Phase.value`. -/

namespace Sys2Proof.Machine

/-- A value whose body is `n` bytes (R351, R128). -/
def State.valueOfBytes (s : State) (n : Nat) (mk : List Byte → Value) : Host.Outcome State Fault Refusal :=
  s.atValue fun a kv calls =>
    match memRead s.buf.bytes (a.c + 1) n with
    | none => s.raiseOob
    | some bs => s.deliverValue { a with c := a.c + 1 + n } kv (mk bs) calls

/-- A value whose body is one byte. -/
def State.valueOfByte (s : State) (mk : Byte → Value) : Host.Outcome State Fault Refusal :=
  s.atValue fun a kv calls =>
    match rd8 s.buf.bytes (a.c + 1) with
    | none => s.raiseOob
    | some b => s.deliverValue { a with c := a.c + 2 } kv (mk b) calls

/-- INT (R355). -/
def State.valueInt (s : State) (k : IntKind) : Host.Outcome State Fault Refusal :=
  s.valueOfBytes (intWidth k) fun bs => .int k (intOfBytes k bs)

/-- A length-prefixed string (R362-R364). -/
def State.valueString (s : State) (mk : List Byte → Value) : Host.Outcome State Fault Refusal :=
  s.atValue fun a kv calls =>
    match readString s.buf.bytes (a.c + 1) with
    | none => s.raiseOob
    | some bs => s.deliverValue { a with c := a.c + 2 + bs.length } kv (mk bs) calls

/-- A composite (R352): the count, then the elements, each a call of VD; an empty one is a value at once. -/
def State.valueComposite (s : State) : Host.Outcome State Fault Refusal :=
  s.atValue fun a kv calls =>
    match rd8 s.buf.bytes (a.c + 1) with
    | none => s.raiseOob
    | some n =>
      match n.toNat with
      | 0 => s.deliverValue { a with c := a.c + 2 } kv (.seq .nil) calls
      | left + 1 => s.resume { a with c := a.c + 2, phase := .value kv ({ left := left, items := [] } :: calls) }

/-- An unsupported tag (R351, R374-R376): the tag is consumed and the decode fails. -/
def State.valueFail (s : State) : Host.Outcome State Fault Refusal := s.atValue fun a _ _ => s.raiseFail (a.c + 1)

/-- VD_0 null (R353): no body. -/
def execVd0 (s : State) : Host.Outcome State Fault Refusal :=
  s.atValue fun a kv calls => s.deliverValue { a with c := a.c + 1 } kv .null calls

/-- VD_1 array (R352). -/
def execVd1 (s : State) : Host.Outcome State Fault Refusal :=
  s.valueComposite

/-- VD_2 structure (R352). -/
def execVd2 (s : State) : Host.Outcome State Fault Refusal :=
  s.valueComposite

/-- VD_3 boolean (R354): nonzero is true. -/
def execVd3 (s : State) : Host.Outcome State Fault Refusal :=
  s.valueOfByte fun b => .bool (b != 0#8)

/-- VD_4 bit-string (R367): one byte, no bit count. -/
def execVd4 (s : State) : Host.Outcome State Fault Refusal :=
  s.valueOfByte .bits

/-- VD_5 int32 (R356). -/
def execVd5 (s : State) : Host.Outcome State Fault Refusal :=
  s.valueInt .i32

/-- VD_6 uint32 (R357). -/
def execVd6 (s : State) : Host.Outcome State Fault Refusal :=
  s.valueInt .u32

/-- VD_7 (R376): unsupported. -/
def execVd7 (s : State) : Host.Outcome State Fault Refusal :=
  s.valueFail

/-- VD_8 (R376): unsupported. -/
def execVd8 (s : State) : Host.Outcome State Fault Refusal :=
  s.valueFail

/-- VD_9 octet-string (R362). -/
def execVd9 (s : State) : Host.Outcome State Fault Refusal :=
  s.valueString .octets

/-- VD_10 visible-string (R363). -/
def execVd10 (s : State) : Host.Outcome State Fault Refusal :=
  s.valueString .visible

/-- VD_11 (R376): unsupported. -/
def execVd11 (s : State) : Host.Outcome State Fault Refusal :=
  s.valueFail

/-- VD_12 utf8-string (R364). -/
def execVd12 (s : State) : Host.Outcome State Fault Refusal :=
  s.valueString .utf8

/-- VD_13 BCD (R368): no digit check. -/
def execVd13 (s : State) : Host.Outcome State Fault Refusal :=
  s.valueOfByte .bcd

/-- VD_14 (R376): unsupported. -/
def execVd14 (s : State) : Host.Outcome State Fault Refusal :=
  s.valueFail

/-- VD_15 int8 (R358). -/
def execVd15 (s : State) : Host.Outcome State Fault Refusal :=
  s.valueInt .i8

/-- VD_16 int16 (R359). -/
def execVd16 (s : State) : Host.Outcome State Fault Refusal :=
  s.valueInt .i16

/-- VD_17 uint8 (R360). -/
def execVd17 (s : State) : Host.Outcome State Fault Refusal :=
  s.valueInt .u8

/-- VD_18 uint16 (R361). -/
def execVd18 (s : State) : Host.Outcome State Fault Refusal :=
  s.valueInt .u16

/-- VD_19 compact array (R374): unsupported. -/
def execVd19 (s : State) : Host.Outcome State Fault Refusal :=
  s.valueFail

/-- VD_20 int64 (R365). -/
def execVd20 (s : State) : Host.Outcome State Fault Refusal :=
  s.valueInt .i64

/-- VD_21 uint64 (R366). -/
def execVd21 (s : State) : Host.Outcome State Fault Refusal :=
  s.valueInt .u64

/-- VD_22 enum (R373): the unit symbol of the code. -/
def execVd22 (s : State) : Host.Outcome State Fault Refusal :=
  s.valueOfByte fun code => .unit (unitSymbol code)

/-- VD_23 float32 (R375): unsupported. -/
def execVd23 (s : State) : Host.Outcome State Fault Refusal :=
  s.valueFail

/-- VD_24 float64 (R375): unsupported. -/
def execVd24 (s : State) : Host.Outcome State Fault Refusal :=
  s.valueFail

/-- VD_25 date-time (R370): 12 bytes. -/
def execVd25 (s : State) : Host.Outcome State Fault Refusal :=
  s.valueOfBytes 12 .datetime

/-- VD_26 date (R371): 5 bytes. -/
def execVd26 (s : State) : Host.Outcome State Fault Refusal :=
  s.valueOfBytes 5 .date

/-- VD_27 time (R372): 4 bytes. -/
def execVd27 (s : State) : Host.Outcome State Fault Refusal :=
  s.valueOfBytes 4 .time

/-- VD_OTHER 0x1C..0x1F (R376): unsupported. -/
def execVdOther1C1F (s : State) : Host.Outcome State Fault Refusal :=
  s.valueFail

/-- VD_OTHER 0x20..0x3F (R376): unsupported. -/
def execVdOther203F (s : State) : Host.Outcome State Fault Refusal :=
  s.valueFail

/-- VD_OTHER 0x40..0x7F (R376): unsupported. -/
def execVdOther407F (s : State) : Host.Outcome State Fault Refusal :=
  s.valueFail

/-- VD_OTHER 0x80..0xFF (R376): unsupported. -/
def execVdOther80FF (s : State) : Host.Outcome State Fault Refusal :=
  s.valueFail

end Sys2Proof.Machine
end

