-- ==== Sys2Proof/Machine/Attempt.lean ====
section
/-! DEFINITION. How an attempt runs: fetch the byte row at the cursor, execute it, until the attempt has ended
(41_frame_sync.md R248). -/

namespace Sys2Proof.Machine

/-- The byte rows' meanings, as `exec` dispatches them: `exec` itself stands above PUSH and so above this. No attempt ever
fetches a host transaction; asked to run one, it would overlap (R211). -/
def execByteRow (i : Instr) (s : State) : Host.Outcome State Fault Refusal :=
  match i with
  | .push _ => .refused .overlappingTransaction
  | .readLatest => .refused .overlappingTransaction
  | .reset => .refused .overlappingTransaction
  | .flag => execFlag s
  | .fmtShort len => execFmtShort len s
  | .fmtExt80BF cls seg len => execFmtExt80BF cls seg len s
  | .fmtExtC0DF cls seg len => execFmtExtC0DF cls seg len s
  | .fmtExtE0EF seg len => execFmtExtE0EF seg len s
  | .fmtExtF0F0 len => execFmtExtF0F0 len s
  | .fmtUnsupF1F1 => execFmtUnsupF1F1 s
  | .fmtUnsupF2F3 _ => execFmtUnsupF2F3 s
  | .fmtUnsupF4F7 _ => execFmtUnsupF4F7 s
  | .fmtUnsupF8FF _ => execFmtUnsupF8FF s
  | .addrMore hi => execAddrMore hi s
  | .addrLast hi => execAddrLast hi s
  | .ctrl b => execCtrl b s
  | .dtMarkerEmpty => execDtMarkerEmpty s
  | .dtMarker12 => execDtMarker12 s
  | .dtSkip0101 => execDtSkip0101 s
  | .dtSkip0203 low => execDtSkip0203 low s
  | .dtSkip0407 low => execDtSkip0407 low s
  | .dtSkip080B low => execDtSkip080B low s
  | .dtSkip0D0D => execDtSkip0D0D s
  | .dtSkip0E0F low => execDtSkip0E0F low s
  | .dtSkip101F low => execDtSkip101F low s
  | .dtSkip203F low => execDtSkip203F low s
  | .dtSkip407F low => execDtSkip407F low s
  | .dtSkip80FF low => execDtSkip80FF low s
  | .pdNull => execPdNull s
  | .pdArray => execPdArray s
  | .pdStruct => execPdStruct s
  | .pdCompact => execPdCompact s
  | .pdOther0303 => execPdOther0303 s
  | .pdOther0407 _ => execPdOther0407 s
  | .pdOther080F _ => execPdOther080F s
  | .pdOther1011 _ => execPdOther1011 s
  | .pdOther1212 => execPdOther1212 s
  | .pdOther1417 _ => execPdOther1417 s
  | .pdOther181F _ => execPdOther181F s
  | .pdOther203F _ => execPdOther203F s
  | .pdOther407F _ => execPdOther407F s
  | .pdOther80FF _ => execPdOther80FF s
  | .pdPeekMergeArray => execPdPeekMergeArray s
  | .pdPeekMergeStruct => execPdPeekMergeStruct s
  | .pdPeekMergeCompact => execPdPeekMergeCompact s
  | .pdPeekVisibleKey => execPdPeekVisibleKey s
  | .pdPeekObisKey => execPdPeekObisKey s
  | .pdPeekDefaultKey0000 => execPdPeekDefaultKey0000 s
  | .pdPeekDefaultKey0303 => execPdPeekDefaultKey0303 s
  | .pdPeekDefaultKey0407 _ => execPdPeekDefaultKey0407 s
  | .pdPeekDefaultKey0808 => execPdPeekDefaultKey0808 s
  | .pdPeekDefaultKey0B0B => execPdPeekDefaultKey0B0B s
  | .pdPeekDefaultKey0C0F _ => execPdPeekDefaultKey0C0F s
  | .pdPeekDefaultKey1011 _ => execPdPeekDefaultKey1011 s
  | .pdPeekDefaultKey1212 => execPdPeekDefaultKey1212 s
  | .pdPeekDefaultKey1417 _ => execPdPeekDefaultKey1417 s
  | .pdPeekDefaultKey181F _ => execPdPeekDefaultKey181F s
  | .pdPeekDefaultKey203F _ => execPdPeekDefaultKey203F s
  | .pdPeekDefaultKey407F _ => execPdPeekDefaultKey407F s
  | .pdPeekDefaultKey80FF _ => execPdPeekDefaultKey80FF s
  | .vd0 => execVd0 s
  | .vd1 => execVd1 s
  | .vd2 => execVd2 s
  | .vd3 => execVd3 s
  | .vd4 => execVd4 s
  | .vd5 => execVd5 s
  | .vd6 => execVd6 s
  | .vd7 => execVd7 s
  | .vd8 => execVd8 s
  | .vd9 => execVd9 s
  | .vd10 => execVd10 s
  | .vd11 => execVd11 s
  | .vd12 => execVd12 s
  | .vd13 => execVd13 s
  | .vd14 => execVd14 s
  | .vd15 => execVd15 s
  | .vd16 => execVd16 s
  | .vd17 => execVd17 s
  | .vd18 => execVd18 s
  | .vd19 => execVd19 s
  | .vd20 => execVd20 s
  | .vd21 => execVd21 s
  | .vd22 => execVd22 s
  | .vd23 => execVd23 s
  | .vd24 => execVd24 s
  | .vd25 => execVd25 s
  | .vd26 => execVd26 s
  | .vd27 => execVd27 s
  | .vdOther1C1F _ => execVdOther1C1F s
  | .vdOther203F _ => execVdOther203F s
  | .vdOther407F _ => execVdOther407F s
  | .vdOther80FF _ => execVdOther80FF s

/-- What a fetch leads to, given how an instruction is executed: the instruction, or the end of the attempt where there is
none (R82, R230). -/
def State.afterFetch (s : State) (run : Instr → State → Host.Outcome State Fault Refusal) :
    Fetched → Host.Outcome State Fault Refusal
  | .instr i a => run i (s.resume a)
  | .noFlag => .next (s.endInsufficient .insuffNoFlag)
  | .outOfBounds => .next s.raiseOob

/-- One byte row of a running attempt. -/
def State.attemptStep (s : State) (a : Attempt) : Host.Outcome State Fault Refusal :=
  s.afterFetch execByteRow (s.fetch a)

/-- Byte rows until the attempt has ended, `n` at most. -/
def runAttempt : Nat → State → Host.Outcome State Fault Refusal
  | 0, s =>
    match s.attempt with
    | none => .next s
    | some _ => .fault .attemptUnfinished
  | n + 1, s =>
    match s.attempt with
    | none => .next s
    | some a =>
      match s.attemptStep a with
      | .next t => runAttempt n t
      | .fault r => .fault r
      | .refused r => .refused r

/-- The step budget of an attempt (log 12): every row but a peek consumes a byte, and a row that consumes one follows every
peek. -/
def attemptBudget (s : State) : Nat := 2 * s.buf.size + 2

end Sys2Proof.Machine
end

