-- ==== Sys2Proof/Machine/Transactions.lean ====
section
/-! DEFINITION. The host transactions: PUSH, READ_LATEST and RESET (40_host_transactions.md R200-R212). -/

namespace Sys2Proof.Machine

/-- Runs a transaction, unless another is running (R211, U2). -/
def State.whenIdle (s : State) (run : Host.Outcome State Fault Refusal) : Host.Outcome State Fault Refusal :=
  match s.attempt with
  | none => run
  | some _ => .refused .overlappingTransaction

/-- BUF after the overflow policy and the append of a chunk (R202, R203). -/
def Memory.receive (m : Memory) (chunk : List Byte) : Memory :=
  (if m.size + chunk.length > Config.params.maxBuffer then Memory.clear else m).append chunk

/-- A PUSH at the start of its attempt: the chunk received, the flag search next (R200, R230). -/
def State.beginPush (s : State) (chunk : List Byte) : State :=
  { s with buf := s.buf.receive chunk, attempt := some Attempt.start, response := none }

/-- PUSH (R200): refused for a chunk outside the contract (R201); otherwise the overflow policy, the append and exactly one
attempt, to its end. -/
def execPush (chunk : List Byte) (s : State) : Host.Outcome State Fault Refusal :=
  s.whenIdle
    (if chunkWellFormed chunk then runAttempt (attemptBudget (s.beginPush chunk)) (s.beginPush chunk)
    else .refused .chunkTooLong)

/-- READ_LATEST (R208): the response, and no state of the block changes. -/
def execReadLatest (s : State) : Host.Outcome State Fault Refusal :=
  s.whenIdle (.next { s with response := some { valid := s.latestValid, record := s.latest } })

/-- RESET (R212): OUT stays as it is. -/
def execReset (s : State) : Host.Outcome State Fault Refusal :=
  s.whenIdle
    (.next { s with
      buf := Memory.clear
      latest := Record.default
      latestValid := false
      status := statusIdle
      response := none })

end Sys2Proof.Machine
end

