-- ==== Sys2Proof/Machine/Dispatch.lean ====
section
/-! DEFINITION. The dispatch: one arm per instruction, each one call of its meaning. -/

namespace Sys2Proof.Machine

def exec (i : Instr) (s : State) : Host.Outcome State Fault Refusal :=
  match i with
  | .push chunk => Sys2Proof.Machine.execPush chunk s
  | .readLatest => Sys2Proof.Machine.execReadLatest s
  | .reset => Sys2Proof.Machine.execReset s
  | .flag => Sys2Proof.Machine.execFlag s
  | .fmtShort len => Sys2Proof.Machine.execFmtShort len s
  | .fmtExt80BF cls seg len => Sys2Proof.Machine.execFmtExt80BF cls seg len s
  | .fmtExtC0DF cls seg len => Sys2Proof.Machine.execFmtExtC0DF cls seg len s
  | .fmtExtE0EF seg len => Sys2Proof.Machine.execFmtExtE0EF seg len s
  | .fmtExtF0F0 len => Sys2Proof.Machine.execFmtExtF0F0 len s
  | .fmtUnsupF1F1 => Sys2Proof.Machine.execFmtUnsupF1F1 s
  | .fmtUnsupF2F3 _ => Sys2Proof.Machine.execFmtUnsupF2F3 s
  | .fmtUnsupF4F7 _ => Sys2Proof.Machine.execFmtUnsupF4F7 s
  | .fmtUnsupF8FF _ => Sys2Proof.Machine.execFmtUnsupF8FF s
  | .addrMore hi => Sys2Proof.Machine.execAddrMore hi s
  | .addrLast hi => Sys2Proof.Machine.execAddrLast hi s
  | .ctrl b => Sys2Proof.Machine.execCtrl b s
  | .dtMarkerEmpty => Sys2Proof.Machine.execDtMarkerEmpty s
  | .dtMarker12 => Sys2Proof.Machine.execDtMarker12 s
  | .dtSkip0101 => Sys2Proof.Machine.execDtSkip0101 s
  | .dtSkip0203 low => Sys2Proof.Machine.execDtSkip0203 low s
  | .dtSkip0407 low => Sys2Proof.Machine.execDtSkip0407 low s
  | .dtSkip080B low => Sys2Proof.Machine.execDtSkip080B low s
  | .dtSkip0D0D => Sys2Proof.Machine.execDtSkip0D0D s
  | .dtSkip0E0F low => Sys2Proof.Machine.execDtSkip0E0F low s
  | .dtSkip101F low => Sys2Proof.Machine.execDtSkip101F low s
  | .dtSkip203F low => Sys2Proof.Machine.execDtSkip203F low s
  | .dtSkip407F low => Sys2Proof.Machine.execDtSkip407F low s
  | .dtSkip80FF low => Sys2Proof.Machine.execDtSkip80FF low s
  | .pdNull => Sys2Proof.Machine.execPdNull s
  | .pdArray => Sys2Proof.Machine.execPdArray s
  | .pdStruct => Sys2Proof.Machine.execPdStruct s
  | .pdCompact => Sys2Proof.Machine.execPdCompact s
  | .pdOther0303 => Sys2Proof.Machine.execPdOther0303 s
  | .pdOther0407 _ => Sys2Proof.Machine.execPdOther0407 s
  | .pdOther080F _ => Sys2Proof.Machine.execPdOther080F s
  | .pdOther1011 _ => Sys2Proof.Machine.execPdOther1011 s
  | .pdOther1212 => Sys2Proof.Machine.execPdOther1212 s
  | .pdOther1417 _ => Sys2Proof.Machine.execPdOther1417 s
  | .pdOther181F _ => Sys2Proof.Machine.execPdOther181F s
  | .pdOther203F _ => Sys2Proof.Machine.execPdOther203F s
  | .pdOther407F _ => Sys2Proof.Machine.execPdOther407F s
  | .pdOther80FF _ => Sys2Proof.Machine.execPdOther80FF s
  | .pdPeekMergeArray => Sys2Proof.Machine.execPdPeekMergeArray s
  | .pdPeekMergeStruct => Sys2Proof.Machine.execPdPeekMergeStruct s
  | .pdPeekMergeCompact => Sys2Proof.Machine.execPdPeekMergeCompact s
  | .pdPeekVisibleKey => Sys2Proof.Machine.execPdPeekVisibleKey s
  | .pdPeekObisKey => Sys2Proof.Machine.execPdPeekObisKey s
  | .pdPeekDefaultKey0000 => Sys2Proof.Machine.execPdPeekDefaultKey0000 s
  | .pdPeekDefaultKey0303 => Sys2Proof.Machine.execPdPeekDefaultKey0303 s
  | .pdPeekDefaultKey0407 _ => Sys2Proof.Machine.execPdPeekDefaultKey0407 s
  | .pdPeekDefaultKey0808 => Sys2Proof.Machine.execPdPeekDefaultKey0808 s
  | .pdPeekDefaultKey0B0B => Sys2Proof.Machine.execPdPeekDefaultKey0B0B s
  | .pdPeekDefaultKey0C0F _ => Sys2Proof.Machine.execPdPeekDefaultKey0C0F s
  | .pdPeekDefaultKey1011 _ => Sys2Proof.Machine.execPdPeekDefaultKey1011 s
  | .pdPeekDefaultKey1212 => Sys2Proof.Machine.execPdPeekDefaultKey1212 s
  | .pdPeekDefaultKey1417 _ => Sys2Proof.Machine.execPdPeekDefaultKey1417 s
  | .pdPeekDefaultKey181F _ => Sys2Proof.Machine.execPdPeekDefaultKey181F s
  | .pdPeekDefaultKey203F _ => Sys2Proof.Machine.execPdPeekDefaultKey203F s
  | .pdPeekDefaultKey407F _ => Sys2Proof.Machine.execPdPeekDefaultKey407F s
  | .pdPeekDefaultKey80FF _ => Sys2Proof.Machine.execPdPeekDefaultKey80FF s
  | .vd0 => Sys2Proof.Machine.execVd0 s
  | .vd1 => Sys2Proof.Machine.execVd1 s
  | .vd2 => Sys2Proof.Machine.execVd2 s
  | .vd3 => Sys2Proof.Machine.execVd3 s
  | .vd4 => Sys2Proof.Machine.execVd4 s
  | .vd5 => Sys2Proof.Machine.execVd5 s
  | .vd6 => Sys2Proof.Machine.execVd6 s
  | .vd7 => Sys2Proof.Machine.execVd7 s
  | .vd8 => Sys2Proof.Machine.execVd8 s
  | .vd9 => Sys2Proof.Machine.execVd9 s
  | .vd10 => Sys2Proof.Machine.execVd10 s
  | .vd11 => Sys2Proof.Machine.execVd11 s
  | .vd12 => Sys2Proof.Machine.execVd12 s
  | .vd13 => Sys2Proof.Machine.execVd13 s
  | .vd14 => Sys2Proof.Machine.execVd14 s
  | .vd15 => Sys2Proof.Machine.execVd15 s
  | .vd16 => Sys2Proof.Machine.execVd16 s
  | .vd17 => Sys2Proof.Machine.execVd17 s
  | .vd18 => Sys2Proof.Machine.execVd18 s
  | .vd19 => Sys2Proof.Machine.execVd19 s
  | .vd20 => Sys2Proof.Machine.execVd20 s
  | .vd21 => Sys2Proof.Machine.execVd21 s
  | .vd22 => Sys2Proof.Machine.execVd22 s
  | .vd23 => Sys2Proof.Machine.execVd23 s
  | .vd24 => Sys2Proof.Machine.execVd24 s
  | .vd25 => Sys2Proof.Machine.execVd25 s
  | .vd26 => Sys2Proof.Machine.execVd26 s
  | .vd27 => Sys2Proof.Machine.execVd27 s
  | .vdOther1C1F _ => Sys2Proof.Machine.execVdOther1C1F s
  | .vdOther203F _ => Sys2Proof.Machine.execVdOther203F s
  | .vdOther407F _ => Sys2Proof.Machine.execVdOther407F s
  | .vdOther80FF _ => Sys2Proof.Machine.execVdOther80FF s

end Sys2Proof.Machine
end

