-- ==== Sys2Proof/Machine/Step.lean ====
section
/-! DEFINITION. One step of the machine: the host's next transaction, whole (00_scope.md R5). In a state with an attempt in
progress, one byte row of it (log 1). -/

namespace Sys2Proof.Machine

/-- One step. With no request waiting the block holds its state unchanged (R6, R517). -/
def step (s : State) : Host.Outcome State Fault Refusal :=
  match s.attempt with
  | some a => s.afterFetch exec (s.fetch a)
  | none =>
    match s.inbox with
    | [] => .next s
    | r :: rest => exec r.toInstr { s with inbox := rest }

/-- `s` with the instruction of a table word where `step` fetches its next one: an attempt that stands on it, at the decode
position the word is read at (log 8). -/
def State.withFetchWord (s : State) (nbits w : Nat) : State :=
  { s with
    buf := Memory.ofBytes (tableBytes nbits w)
    attempt := some (Attempt.standingAt (tablePosition (tableBytes nbits w))) }

end Sys2Proof.Machine
end

