-- ==== Sys2Proof/Machine/Reference.lean ====
section
/-! DEFINITION. The spec's pseudocode for a whole attempt, written as it stands there: VD (43_axdr_value_decoder.md R350), PD
(42_payload_decoder.md R300), ATTEMPT (41_frame_sync.md R248) and PUSH (40_host_transactions.md R200). The machine does not
call it: it is what statements compare the byte-row machine with. Recursion is on a budget; with one unit a buffer byte it
is never spent, since every call consumes a byte (R351). -/

namespace Sys2Proof.Machine

/-- What a decoder call answers (R24): a result and the cursor after it, a failure with its cursor, or DecodeOOB. -/
inductive Decoded (α : Type) where
  | ok (v : α) (c : Nat)
  | fail (c : Nat)
  | oob
  deriving DecidableEq, Repr

/-- `let (v, c) <- …` (R24): a failure of the callee is passed on at once, unchanged. -/
def Decoded.andThen {α β : Type} (r : Decoded α) (k : α → Nat → Decoded β) : Decoded β :=
  match r with
  | .ok v c => k v c
  | .fail c => .fail c
  | .oob => .oob

/-- MemRead followed by the cursor's move past what was read. -/
def readRef (view : List Byte) (c n : Nat) : Decoded (List Byte) :=
  match memRead view c n with
  | none => .oob
  | some bs => .ok bs (c + n)

/-- rd8 followed by the cursor's move. -/
def byteRef (view : List Byte) (c : Nat) : Decoded Byte :=
  match rd8 view c with
  | none => .oob
  | some b => .ok b (c + 1)

/-- A length-prefixed string (R362). -/
def stringRef (view : List Byte) (c : Nat) : Decoded (List Byte) :=
  (byteRef view c).andThen fun len c => readRef view c len.toNat

/-- `n` calls of VD in a row (R308, R352). -/
def valuesRef (vd : Nat → Decoded Value) : Nat → Nat → Decoded (List Value)
  | 0, c => .ok [] c
  | n + 1, c => (vd c).andThen fun v c => (valuesRef vd n c).andThen fun vs c => .ok (v :: vs) c

/-- INT (R355). -/
def intRef (view : List Byte) (k : IntKind) (c : Nat) : Decoded Value :=
  (readRef view c (intWidth k)).andThen fun bs c => .ok (.int k (intOfBytes k bs)) c

/-- VD (R350): the tag is consumed, then the body of that tag (R352-R376). -/
def valueRef (view : List Byte) : Nat → Nat → Decoded Value
  | 0, _ => .oob
  | budget + 1, c =>
    (byteRef view c).andThen fun t c =>
      match t.toNat with
      | 0 => .ok .null c
      | 1 | 2 =>
        (byteRef view c).andThen fun n c =>
          (valuesRef (valueRef view budget) n.toNat c).andThen fun vs c => .ok (.seq (ValueSeq.ofList vs)) c
      | 3 => (byteRef view c).andThen fun b c => .ok (.bool (b != 0#8)) c
      | 4 => (byteRef view c).andThen fun b c => .ok (.bits b) c
      | 5 => intRef view .i32 c
      | 6 => intRef view .u32 c
      | 9 => (stringRef view c).andThen fun bs c => .ok (.octets bs) c
      | 10 => (stringRef view c).andThen fun bs c => .ok (.visible bs) c
      | 12 => (stringRef view c).andThen fun bs c => .ok (.utf8 bs) c
      | 13 => (byteRef view c).andThen fun b c => .ok (.bcd b) c
      | 15 => intRef view .i8 c
      | 16 => intRef view .i16 c
      | 17 => intRef view .u8 c
      | 18 => intRef view .u16 c
      | 20 => intRef view .i64 c
      | 21 => intRef view .u64 c
      | 22 => (byteRef view c).andThen fun u c => .ok (.unit (unitSymbol u)) c
      | 25 => (readRef view c 12).andThen fun bs c => .ok (.datetime bs) c
      | 26 => (readRef view c 5).andThen fun bs c => .ok (.date bs) c
      | 27 => (readRef view c 4).andThen fun bs c => .ok (.time bs) c
      | _ => .fail c

/-- The loop of PDMERGE (R303). -/
def mergeRef (pd : Nat → Decoded Payload) : Nat → Nat → Payload → Decoded Payload
  | 0, c, m => .ok m c
  | n + 1, c, m => (pd c).andThen fun p c => mergeRef pd n c (mergeEntries m p)

/-- The keyed branch after its key (R308). -/
def keyedRef (view : List Byte) (budget : Nat) (key : Text) (count c : Nat) : Decoded Payload :=
  (valuesRef (valueRef view budget) count c).andThen fun vals c => .ok (keyedPayload key vals) c

/-- PDC (R302): the count, the peek, and the branch it selects (R303-R306). -/
def compositeRef (view : List Byte) (budget : Nat) (pd : Nat → Decoded Payload) (c : Nat) : Decoded Payload :=
  (byteRef view c).andThen fun n c =>
    if n.toNat = 0 then .ok [] c
    else
      match rd8 view c with
      | none => .oob
      | some p =>
        if p = 1#8 ∨ p = 2#8 ∨ p = 19#8 then mergeRef pd n.toNat c []
        else if p = 10#8 then
          (stringRef view (c + 1)).andThen fun bs c => keyedRef view budget bs (n.toNat - 1) c
        else if p = 9#8 then
          (stringRef view (c + 1)).andThen fun bs c => keyedRef view budget (obis bs) (n.toNat - 1) c
        else keyedRef view budget Config.params.defaultKey n.toNat c

/-- PD (R300). -/
def payloadRef (view : List Byte) : Nat → Nat → Decoded Payload
  | 0, _ => .oob
  | budget + 1, c =>
    (byteRef view c).andThen fun t c =>
      if t = 0#8 then .ok [] c
      else if t = 1#8 ∨ t = 2#8 then compositeRef view budget (payloadRef view budget) c
      else .fail c

/-- ADDR (R236): at most `k` more bytes. -/
def addressRef (view : List Byte) : Nat → BitVec 32 → Nat → Decoded (BitVec 32)
  | 0, acc, c => .ok acc c
  | k + 1, acc, c =>
    (byteRef view c).andThen fun b c =>
      if b.getLsbD 0 then .ok (accumulateAddress acc b) c else addressRef view k (accumulateAddress acc b) c

/-- The marker scan of R243: `k` bytes left to scan; answers where the length byte is. -/
def dateTimeScanRef (view : List Byte) : Nat → Nat → Decoded Unit
  | 0, pos => .ok () pos
  | k + 1, pos =>
    match rd8 view pos with
    | none => .oob
    | some b => if b = 0x00#8 ∨ b = 0x0C#8 then .ok () pos else dateTimeScanRef view k (pos + 1)

/-- Step 11 (R243). -/
def dateTimeRef (view : List Byte) (c : Nat) : Decoded (List Byte) :=
  (dateTimeScanRef view Config.params.dtScanLimit c).andThen fun _ pos => stringRef view pos

/-- Step 4 (R234): FMT, SEG, DLEN and the cursor; none for an unsupported format byte. -/
def formatRef (view : List Byte) (start : Nat) : Option (Decoded (Nat × Bool × Nat)) :=
  match rd8 view start with
  | none => some .oob
  | some b1 =>
    if b1.toNat ≤ Config.params.shortFormMax then some (.ok (0, false, b1.toNat % 128) (start + 1))
    else if b1.toNat ≤ Config.params.extFormMax then
      match rd8 view (start + 1) with
      | none => some .oob
      | some b2 =>
        some (.ok (b1.toNat / 128 + b1.toNat / 16 % 8, b1.toNat / 8 % 2 == 1, b1.toNat % 8 * 256 + b2.toNat)
          (start + 2))
    else none

/-- What steps 1 to 10 come to: the attempt ended by one of them, with the buffer left, or the header read and the cursor
past the fixed skips. -/
inductive HeaderRead where
  | ended (left : List Byte) (outcome : ParseOutcome)
  | body (a : Attempt)
  deriving DecidableEq, Repr

/-- S (R231, R232): the index of the first byte after the flag at `fi` that is no flag. -/
def frameStartRef (view : List Byte) (fi : Nat) : Nat :=
  fi + 1 + ((view.drop (fi + 1)).takeWhile fun b => b == Config.params.flag).length

/-- Steps 5 to 10 (R235-R242), from the format fields and the cursor after them. -/
def linkHeaderRef (view : List Byte) (start fmt : Nat) (seg : Bool) (dlen c : Nat) : HeaderRead :=
  if start + dlen < view.length then
    let client := addressRef view Config.params.addrMaxBytes 0#32 c
    match client.andThen fun addrC c =>
        (addressRef view Config.params.addrMaxBytes 0#32 c).andThen fun addrS c =>
          (byteRef view c).andThen fun ctrl c => .ok (addrC, addrS, ctrl) c with
    | .ok (addrC, addrS, ctrl) c =>
      match le16At view c with
      | none => .ended [] .decodeOob
      | some hcs =>
        if crc16 (slice view start c) ≠ hcs then .ended (view.drop start) .hcsMismatch
        else if dlen < 2 then .ended (view.drop start) .fcsMismatch
        else
          match le16At view (start + dlen - 2) with
          | none => .ended [] .decodeOob
          | some fcs =>
            if crc16 (slice view start (start + dlen - 2)) ≠ fcs then .ended (view.drop start) .fcsMismatch
            else
              .body { Attempt.start with
                fmt := fmt, seg := seg, dlen := dlen, addrC := addrC, addrS := addrS, ctrl := ctrl
                hcs := hcs, fcs := fcs
                c := c + 2 + Config.params.llcBytes + Config.params.apduSkipBytes + Config.params.apduTypeBytes }
    | _ => .ended [] .decodeOob
  else .ended view .insuffIncomplete

/-- Steps 1 to 10 (R230-R242), stopping at the first that returns. -/
def headerRef (view : List Byte) : HeaderRead :=
  match findFlag view 0 with
  | none => .ended view .insuffNoFlag
  | some fi =>
    if view.length < frameStartRef view fi + Config.params.minFrameBytes then .ended view .insuffShort
    else
      match formatRef view (frameStartRef view fi) with
      | none => .ended (view.drop (frameStartRef view fi)) .formatUnsupported
      | some (.ok (fmt, seg, dlen) c) => linkHeaderRef view (frameStartRef view fi) fmt seg dlen c
      | some _ => .ended [] .decodeOob

/-- Steps 11 and 12 (R243, R244) at the cursor after the header: the date-time field and the payload, with the final cursor
CF of a success or of a failure. -/
def bodyRef (view : List Byte) (a : Attempt) : Decoded (List Byte × Payload) :=
  (dateTimeRef view a.c).andThen fun dt c =>
    (payloadRef view (view.length + 1) c).andThen fun payload cf => .ok (dt, payload) cf

/-- ATTEMPT (R248): the header, the body, and the trim and commit of steps 13 and 14 (R245-R247). -/
def attemptRef (view : List Byte) : List Byte × ParseOutcome × Option Record :=
  let trim := fun cf => if cf + Config.params.trimSkip ≥ view.length then [] else view.drop (cf + Config.params.trimSkip)
  match headerRef view with
  | .ended left outcome => (left, outcome, none)
  | .body a =>
    match bodyRef view a with
    | .ok (dt, payload) cf => (trim cf, .recordOk, some ({ a with dt := dt }.record payload))
    | .fail cf => (trim cf, .decodeFail, none)
    | .oob => (trim view.length, .decodeOob, none)

/-- PUSH (R200) on a chunk within the contract: overflow policy, append, one attempt, STATUS, and on RECORD_OK the
record. -/
def pushRef (chunk : List Byte) (s : State) : State :=
  let held := if s.buf.size + chunk.length > Config.params.maxBuffer then [] else s.buf.bytes
  match attemptRef (held ++ chunk) with
  | (left, oc, some rec) =>
    { s with
      buf := Memory.ofBytes left, status := oc.code, latest := rec, latestValid := true, out := s.out ++ [rec]
      response := none }
  | (left, oc, none) => { s with buf := Memory.ofBytes left, status := oc.code, response := none }

end Sys2Proof.Machine
end

