-- ==== Sys2Proof/Safety.lean ====
section
/-! DEFINITION. What counts as a safe state, in the terms the statements use: the ranges of decoded values (10_state.md
R44-R46, R56), the coherence of LATEST, LATEST_VALID and OUT (20_memory.md R100), the canonical buffer (R40, R41), and what
is observed of a run (70_reset_and_hazards.md R611). -/

namespace Sys2Proof.Machine

/-- The range of an integer kind (R56). -/
def intInRange (k : IntKind) (v : Int) : Bool :=
  match k with
  | .i8 => decide (-128 ≤ v ∧ v ≤ 127)
  | .u8 => decide (0 ≤ v ∧ v ≤ 255)
  | .i16 => decide (-32768 ≤ v ∧ v ≤ 32767)
  | .u16 => decide (0 ≤ v ∧ v ≤ 65535)
  | .i32 => decide (-2 ^ 31 ≤ v ∧ v ≤ 2 ^ 31 - 1)
  | .u32 => decide (0 ≤ v ∧ v ≤ 2 ^ 32 - 1)
  | .i64 => decide (-2 ^ 63 ≤ v ∧ v ≤ 2 ^ 63 - 1)
  | .u64 => decide (0 ≤ v ∧ v ≤ 2 ^ 64 - 1)

mutual
/-- A value within the payload column of R44. -/
def Value.wf : Value → Bool
  | .null => true
  | .bool _ => true
  | .int k v => intInRange k v
  | .bits _ => true
  | .octets bs => decide (bs.length ≤ 255)
  | .visible bs => decide (bs.length ≤ 255)
  | .utf8 bs => decide (bs.length ≤ 255)
  | .bcd _ => true
  | .unit _ => true
  | .datetime bs => decide (bs.length = 12)
  | .date bs => decide (bs.length = 5)
  | .time bs => decide (bs.length = 4)
  | .seq items => ValueSeq.wf items && decide ((ValueSeq.toList items).length ≤ 255)
  | .scaled _ _ => true
  | .text _ => true

/-- Items that are all within R44. -/
def ValueSeq.wf : ValueSeq → Bool
  | .nil => true
  | .cons v rest => Value.wf v && ValueSeq.wf rest
end

/-- A payload within R46: no two entries have the same key, and every value is within R44. -/
def payloadWf (p : Payload) : Bool :=
  decide (p.map Entry.key).Nodup && p.all fun e => e.vals.all Value.wf

/-- A record within R45 and R46. -/
def Record.wf (r : Record) : Bool :=
  decide (r.header.encoding = Config.params.encodingTag) && decide (r.header.frameFormat ≤ 8)
    && decide (-1 ≤ r.header.dataLength ∧ r.header.dataLength ≤ 2047) && decide (r.header.dateTime.length ≤ 255)
    && payloadWf r.payload

/-- The call stack of the Value Decoder within R44: an open composite has at most 255 elements in all. -/
def seqFrameWf (f : SeqFrame) : Bool := decide (f.items.length + 1 + f.left ≤ 255) && f.items.all Value.wf

/-- The step an attempt stands at, within R44. -/
def Phase.wf : Phase → Bool
  | .flag => true
  | .format => true
  | .client _ => true
  | .server _ => true
  | .control => true
  | .dateTime _ => true
  | .payload => true
  | .peek _ => true
  | .value kv calls => kv.vals.all Value.wf && calls.all seqFrameWf

/-- The working registers within R51, and what the call stack holds within R44 and R46. -/
def Attempt.wf (a : Attempt) : Bool :=
  decide (a.fmt ≤ 8) && decide (-1 ≤ a.dlen ∧ a.dlen ≤ 2047) && decide (a.dt.length ≤ 255) && a.phase.wf
    && a.merges.all fun m => payloadWf m.entries

/-- STATUS holds one of the codes of R500: 10 to 15 are never written. -/
def statusLegal (status : BitVec 4) : Bool := decide (status.toNat ≤ 9)

/-- LATEST_VALID says what LATEST holds (R43, R100): the last record emitted, or DEFAULT_RECORD. -/
def State.latestCoherent (s : State) : Bool :=
  if s.latestValid then decide (s.out.getLast? = some s.latest) else decide (s.latest = Record.default)

/-- The attempt that runs, if one does, is within R51. -/
def State.attemptWf (s : State) : Bool :=
  match s.attempt with
  | none => true
  | some a => a.wf

/-- The invariant of the machine, in every state that a run can reach and in every attempt in progress: the buffer is
canonical and within its capacity, STATUS is a code, LATEST is coherent, every record is within R45. -/
def State.inv (s : State) : Bool :=
  s.buf.wf && statusLegal s.status && s.latestCoherent && s.out.all Record.wf && s.attemptWf

/-- One turn of the CRC as its parameters give it, without reflection: the top bit decides, the register shifts left and the
polynomial is R16's. -/
def crcForwardBit (crc : BitVec 16) : BitVec 16 :=
  if crc.msb then crc <<< 1 ^^^ Config.params.crcPoly else crc <<< 1

/-- `k` turns of the unreflected bit loop. -/
def crcForwardBits : Nat → BitVec 16 → BitVec 16
  | 0, crc => crc
  | k + 1, crc => crcForwardBits k (crcForwardBit crc)

/-- One byte of the unreflected CRC: the byte enters the high bits, reflected (CRC_REFIN). -/
def crcForwardByte (crc : BitVec 16) (b : Byte) : BitVec 16 :=
  crcForwardBits 8 (crc ^^^ (b.reverse.setWidth 16 <<< 8))

/-- The CRC of R16's parameters read literally: polynomial 0x1021, input and output reflected. -/
def crcForward (bs : List Byte) : BitVec 16 :=
  (bs.foldl crcForwardByte Config.params.crcInit).reverse ^^^ Config.params.crcXorOut

/-- What is observed of a run after its last transaction (R611). -/
def State.observe (s : State) : List Record × BitVec 4 × Bool × Record × Memory :=
  (s.out, s.status, s.latestValid, s.latest, s.buf)

/-- An attempt stands at a step. -/
def State.standsAt (s : State) (a : Attempt) (p : Phase) : Prop := s.attempt = some a ∧ a.phase = p

/-- The outcomes that leave BUF untouched (R500). -/
def ParseOutcome.insufficient : ParseOutcome → Bool
  | .recordOk => false
  | .insuffNoFlag => true
  | .insuffShort => true
  | .insuffIncomplete => true
  | .hcsMismatch => false
  | .fcsMismatch => false
  | .formatUnsupported => false
  | .decodeFail => false
  | .decodeOob => false

/-- The outcomes that cut BUF to start at S (R241, R500). -/
def ParseOutcome.resync : ParseOutcome → Bool
  | .recordOk => false
  | .insuffNoFlag => false
  | .insuffShort => false
  | .insuffIncomplete => false
  | .hcsMismatch => true
  | .fcsMismatch => true
  | .formatUnsupported => true
  | .decodeFail => false
  | .decodeOob => false

end Sys2Proof.Machine
end

