-- ==== Sys2Proof/Certificates/Slice0/Obligations.lean ====
section
/-! DEFINITION. The statements for the provers. Each docstring names the rule of spec/ it formalises. A statement that rests on
a choice of the spec's own (a decision D<n> of 92_eei_decisions.md) or of the model's (a log entry) says so. -/

section

open Sys2Proof Sys2Proof.Machine

/-! ### Reset and the machine as a whole -/

/-- What reset leaves (70_reset_and_hazards.md section 1, the table). BUF, STATUS, LATEST_VALID and DEFAULT_RECORD have the
values that the spec chose (D29, D30, D31, D42); the empty inbox and response are the model's (logs 2, 3). -/
def Obligations.ResetLeavesSpecState : Prop :=
  State.reset.buf = [] ∧ State.reset.status = 0#4 ∧ State.reset.latestValid = false ∧ State.reset.out = [] ∧
  State.reset.attempt = none ∧ State.reset.inbox = [] ∧ State.reset.response = none ∧
  State.reset.latest =
    { header := {
        encoding := [0x41#8, 0x2D#8, 0x58#8, 0x44#8, 0x52#8], frameFormat := 0, segmentation := false, dataLength := -1
        clientAddress := 0#32, serverAddress := 0#32, control := 0#8, headerCrc := 0#16, frameCrc := 0#16
        dateTime := [] }
      payload := [] }

/-- The state after reset meets the invariant of `StepKeepsInvariant`. -/
def Obligations.ResetMeetsInvariant : Prop := State.reset.inv = true

/-- Every step keeps the invariant (10_state.md R41, R44-R46, R51, R56; 20_memory.md R100; 60_exceptions.md R500): the buffer
canonical and within 2048 bytes, STATUS one of the codes 0 to 9, LATEST the last record emitted or the default record as
LATEST_VALID says, every record in OUT within its ranges with no key twice, and a running attempt's registers and partial
values within theirs. -/
def Obligations.StepKeepsInvariant : Prop :=
  ∀ s t : State, s.inv = true → step s = .next t → t.inv = true

/-- No input stops the block, and the only refusal is a chunk longer than MAX_CHUNK (60_exceptions.md R506): every step goes
on but that one; and every PUSH within the contract completes, with one of the outcomes 1 to 9 and no attempt left. -/
def Obligations.NothingStopsButLongChunk : Prop :=
  (∀ s : State,
    (∃ t, step s = .next t) ∨
    (s.attempt = none ∧ ∃ chunk rest, s.inbox = .push chunk :: rest ∧ 2048 < chunk.length ∧
      step s = .refused .chunkTooLong)) ∧
  (∀ (s : State) (chunk : List Byte), s.attempt = none → chunk.length ≤ 2048 →
    ∃ t, exec (.push chunk) s = .next t ∧ t.attempt = none ∧ 1 ≤ t.status.toNat ∧ t.status.toNat ≤ 9)

/-- A step runs the decoded instruction and nothing else. In an idle block it is the host's next transaction, whole
(00_scope.md R5; the inbox is the model's, log 2); with none waiting the block holds its state (60_exceptions.md R517). Inside
an attempt it is the byte row that stands at the cursor, at the decode position of the attempt's step (log 1), and where its
bytes run past the buffer's end the attempt ends with DECODE_OOB and BUF cleared (20_memory.md R82, D24). The flag search is
`FlagSearchFindsFirstFlag`. -/
def Obligations.StepRunsDecodedInstruction : Prop :=
  (∀ s : State, s.attempt = none →
    (∀ r rest, s.inbox = r :: rest → step s = exec r.toInstr { s with inbox := rest }) ∧
    (s.inbox = [] → step s = .next s)) ∧
  (∀ (s : State) (a : Attempt), s.attempt = some a → a.phase ≠ .flag →
    (∀ i rest, decodeAt a.phase.position (s.buf.bytes.drop a.c) = .ok (i, rest) → step s = exec i s) ∧
    (∀ e, decodeAt a.phase.position (s.buf.bytes.drop a.c) = .error e →
      step s = .next { s with buf := [], status := 9#4, attempt := none }))

/-- The flag search (41_frame_sync.md R230): the first FLAG at or after the cursor is the frame's, and FLAG executed there
writes its index to Fi; with no FLAG the outcome is INSUFF_NO_FLAG (2) and BUF is untouched. -/
def Obligations.FlagSearchFindsFirstFlag : Prop :=
  ∀ (s : State) (a : Attempt), s.standsAt a .flag →
    (∀ i, a.c ≤ i → s.buf.bytes[i]? = some 0x7E#8 → (∀ j, a.c ≤ j → j < i → s.buf.bytes[j]? ≠ some 0x7E#8) →
      step s = exec .flag { s with attempt := some { a with c := i } } ∧
      ∀ t b, exec .flag { s with attempt := some { a with c := i } } = .next t → t.attempt = some b → b.fi = i) ∧
    ((∀ j, a.c ≤ j → s.buf.bytes[j]? ≠ some 0x7E#8) →
      step s = .next { s with status := 2#4, attempt := none })

/-! ### The host transactions -/

/-- PUSH is the spec's pseudocode (40_host_transactions.md R200, over 41_frame_sync.md R248, 42_payload_decoder.md R300 and
43_axdr_value_decoder.md R350): the byte-row machine and the recursive functions of Machine/Reference.lean answer the same
state for every idle block and every chunk within the contract. -/
def Obligations.PushRefinesPseudocode : Prop :=
  ∀ (s : State) (chunk : List Byte), s.attempt = none → chunk.length ≤ 2048 →
    exec (.push chunk) s = .next (pushRef chunk s)

/-- PUSH is its byte rows, one `step` each, from the start of its attempt to its end (log 1): so what is stated of a byte row
holds inside every PUSH. -/
def Obligations.PushRunsItsByteRows : Prop :=
  ∀ (s : State) (chunk : List Byte), s.attempt = none → chunk.length ≤ 2048 →
    ∃ k t, exec (.push chunk) s = .next t ∧ t.attempt = none ∧
      Sys2Proof.core.run k (s.beginPush chunk) = .next t ∧
      ∀ j, j < k → ∃ u : State, Sys2Proof.core.run j (s.beginPush chunk) = .next u ∧ u.attempt ≠ none

/-- The overflow policy (40_host_transactions.md R202): the test uses the lengths before the append, equal to MAX_BUFFER is
no overflow, an overflow discards the held bytes entirely, and the chunk is appended all the same. -/
def Obligations.OverflowDiscardsHeldBytes : Prop :=
  ∀ (s : State) (chunk : List Byte), s.attempt = none → chunk.length ≤ 2048 →
    (s.buf.size + chunk.length > 2048 → exec (.push chunk) s = exec (.push chunk) { s with buf := [] }) ∧
    (s.buf.size + chunk.length ≤ 2048 → (s.beginPush chunk).buf.bytes = s.buf.bytes ++ chunk)

/-- The append (40_host_transactions.md R203): it comes after the overflow test and before the attempt, so a PUSH is an empty
PUSH over a buffer that already holds the chunk; an empty chunk appends nothing. -/
def Obligations.PushAppendsBeforeAttempt : Prop :=
  ∀ (s : State) (chunk : List Byte), s.attempt = none → s.buf.size + chunk.length ≤ 2048 →
    exec (.push chunk) s = exec (.push []) { s with buf := Memory.ofBytes (s.buf.bytes ++ chunk) } ∧
    (s.beginPush []).buf.bytes = s.buf.bytes

/-- A record is stored in LATEST and appended to OUT only when the outcome is RECORD_OK, once; on every other outcome LATEST,
LATEST_VALID and OUT are unchanged (40_host_transactions.md R206). -/
def Obligations.PushPublishesOnSuccessOnly : Prop :=
  ∀ (s t : State) (chunk : List Byte), exec (.push chunk) s = .next t →
    (t.status = 1#4 → t.latestValid = true ∧ t.out = s.out ++ [t.latest]) ∧
    (t.status ≠ 1#4 → t.latest = s.latest ∧ t.latestValid = s.latestValid ∧ t.out = s.out)

/-- What a PUSH leaves in BUF, by its outcome (60_exceptions.md R500; 41_frame_sync.md R241, R245, R246, R250, R251, which rest
on D24, D26, D27 and D29; the trim distance 3 on log 6). `view` is BUF after the overflow test and the append. An insufficient
outcome leaves it. A resynchronization cuts it to start at S, the first byte after the first FLAG and the FLAGs that follow
it, itself none (R231, R232). RECORD_OK and DECODE_FAIL come only after a header that was read in full, and the commit trim
cuts three bytes past CF, the final cursor that the decoders of the date-time field and the payload answer with their success
or their failure; a cut past the end clears BUF. DECODE_OOB clears it; and every outcome but the insufficient ones makes it
strictly shorter. -/
def Obligations.PushBufferByOutcome : Prop :=
  ∀ (s t : State) (chunk : List Byte), exec (.push chunk) s = .next t →
    let view := (s.buf.receive chunk).bytes
    (t.status = 2#4 ∨ t.status = 3#4 ∨ t.status = 4#4 → t.buf = Memory.ofBytes view) ∧
    (t.status = 5#4 ∨ t.status = 6#4 ∨ t.status = 7#4 →
      ∃ fi, findFlag view 0 = some fi ∧
        let start := fi + 1 + ((view.drop (fi + 1)).takeWhile fun b => b == 0x7E#8).length
        (∃ b, view[start]? = some b ∧ b ≠ 0x7E#8) ∧ t.buf = Memory.ofBytes (view.drop start)) ∧
    (t.status = 1#4 ∨ t.status = 8#4 →
      ∃ a cf, headerRef view = .body a ∧
        (t.status = 1#4 → ∃ dt payload, bodyRef view a = .ok (dt, payload) cf) ∧
        (t.status = 8#4 → bodyRef view a = .fail cf) ∧
        t.buf = Memory.commitTrim Config.params.trimSkip (s.buf.receive chunk) cf ∧
        t.buf = Memory.ofBytes (view.drop (cf + 3))) ∧
    (t.status = 9#4 → t.buf = []) ∧
    (¬ (t.status = 2#4 ∨ t.status = 3#4 ∨ t.status = 4#4) → t.buf.size < view.length)

/-- The frame of PUSH: it completes with STATUS one of the codes 1 to 9 and with no attempt left; the requests still waiting
are untouched, and it has no response (40_host_transactions.md section PUSH, D29; 30_encoding.md section 4; log 3). -/
def Obligations.PushFrame : Prop :=
  ∀ (s t : State) (chunk : List Byte), exec (.push chunk) s = .next t →
    t.attempt = none ∧ t.inbox = s.inbox ∧ t.response = none ∧ 1 ≤ t.status.toNat ∧ t.status.toNat ≤ 9

/-- An attempt is a function of the buffer alone (41_frame_sync.md R248; 10_state.md R51, R58): two idle blocks with equal
buffers answer the same PUSH with equal buffers, equal outcomes and, on success, equal records, whatever else they hold. -/
def Obligations.AttemptDependsOnBufferAlone : Prop :=
  ∀ (s s' t t' : State) (chunk : List Byte), s.buf = s'.buf →
    exec (.push chunk) s = .next t → exec (.push chunk) s' = .next t' →
    t.buf = t'.buf ∧ t.status = t'.status ∧ (t.status = 1#4 → t.latest = t'.latest)

/-- A frame split over two PUSHes is resumed purely from the buffer (10_state.md R58; 40_host_transactions.md R213): where the
first PUSH ends insufficient and nothing overflows, the second answers what one PUSH of both chunks would have. -/
def Obligations.SplitPushesCompose : Prop :=
  ∀ (s t : State) (first second : List Byte), s.buf.size + first.length + second.length ≤ 2048 →
    exec (.push first) s = .next t → t.status = 2#4 ∨ t.status = 3#4 ∨ t.status = 4#4 →
    exec (.push second) t = exec (.push (first ++ second)) s

/-- A frame that declares DLEN = 2047 is never parsed (41_frame_sync.md R249, derived there): it is incomplete in every
buffer, and BUF keeps it. -/
def Obligations.FrameOf2047NeverParses : Prop :=
  ∀ (s : State) (garbage rest : List Byte) (extra : Nat) (b1 b2 : Byte), s.attempt = none → s.buf = [] →
    0x7E#8 ∉ garbage → 0x80 ≤ b1.toNat → b1.toNat ≤ 0xF0 → b1.toNat % 8 * 256 + b2.toNat = 2047 → 12 ≤ rest.length →
    let view := garbage ++ List.replicate (extra + 1) 0x7E#8 ++ b1 :: b2 :: rest
    view.length ≤ 2048 →
    exec (.push view) s = .next { s with buf := Memory.ofBytes view, status := 4#4, response := none }

/-- Outside the contract (40_host_transactions.md R201, R211; D3, D37; logs 9, 10): an idle block refuses a chunk longer than
2048 bytes, and no transaction runs while an attempt does. -/
def Obligations.ContractBreaksAreRefused : Prop :=
  (∀ (s : State) (chunk : List Byte), s.attempt = none → 2048 < chunk.length →
    exec (.push chunk) s = .refused .chunkTooLong) ∧
  (∀ (s : State) (i : Instr), s.attempt ≠ none → ((∃ chunk, i = .push chunk) ∨ i = .readLatest ∨ i = .reset) →
    exec i s = .refused .overlappingTransaction)

/-- READ_LATEST answers (LATEST_VALID, LATEST) and writes nothing (40_host_transactions.md, READ_LATEST, D30, D40). The
response is the model's place for it (log 3). -/
def Obligations.ReadLatestReturnsSnapshot : Prop :=
  ∀ s : State, s.attempt = none →
    exec .readLatest s = .next { s with response := some { valid := s.latestValid, record := s.latest } }

/-- RESET empties BUF, puts DEFAULT_RECORD in LATEST, clears LATEST_VALID and sets STATUS to IDLE; OUT stays
(40_host_transactions.md, RESET, D39, D42), and it is idempotent (70_reset_and_hazards.md R601, derived there). -/
def Obligations.ResetRestoresAllButOut : Prop :=
  ∀ s : State, s.attempt = none →
    exec .reset s = .next { State.reset with out := s.out, inbox := s.inbox } ∧
    ∀ t, exec .reset s = .next t → exec .reset t = .next t

/-- RESET is the only way back to LATEST_VALID = 0 (70_reset_and_hazards.md R601, derived there): no other instruction clears
it, and a step that does so ran RESET. -/
def Obligations.OnlyResetClearsLatestValid : Prop :=
  (∀ (i : Instr) (s t : State), i ≠ .reset → exec i s = .next t → s.latestValid = true → t.latestValid = true) ∧
  (∀ s t : State, step s = .next t → s.latestValid = true → t.latestValid = false →
    s.attempt = none ∧ ∃ rest, s.inbox = .reset :: rest)

/-! ### Encoding -/

/-- Decoding an encoded instruction gives it back, with every operand at every value and no byte left over
(30_encoding.md R121-R131, R134). -/
def Obligations.DecodeInvertsEncode : Prop :=
  ∀ i : Instr, decode (encode i) = .ok (i, [])

/-- Every byte at every decode position is exactly one instruction, of the length the spec gives (30_encoding.md R131, R132):
at the frame-format position a byte from 0x80 to 0xF0 takes a second byte and every other stands alone; at the flag position
0x7E alone is FLAG; everywhere else one byte is one instruction. Encoding it gives the bytes back. -/
def Obligations.EveryByteIsOneInstruction : Prop :=
  (∀ (p : Position) (b : Byte) (rest : List Byte), p ≠ .flag → p ≠ .format →
    ∃ i, decodeAt p (b :: rest) = .ok (i, rest) ∧ encode i = .bytes p [b]) ∧
  (∀ (b : Byte) (rest : List Byte), b.toNat < 0x80 ∨ 0xF0 < b.toNat →
    ∃ i, decodeAt .format (b :: rest) = .ok (i, rest) ∧ encode i = .bytes .format [b]) ∧
  (∀ (b1 b2 : Byte) (rest : List Byte), 0x80 ≤ b1.toNat → b1.toNat ≤ 0xF0 →
    ∃ i, decodeAt .format (b1 :: b2 :: rest) = .ok (i, rest) ∧ encode i = .bytes .format [b1, b2]) ∧
  (∀ b1 : Byte, 0x80 ≤ b1.toNat → b1.toNat ≤ 0xF0 → decodeAt .format [b1] = .error .endOfBuffer) ∧
  (∀ (b : Byte) (rest : List Byte),
    decodeAt .flag (b :: rest) = if b = 0x7E#8 then .ok (.flag, rest) else .error .notFlag)

/-- Within a decode position every byte matches exactly one row of the opcode table (30_encoding.md, opening paragraph): the
row of the instruction it decodes to, and no other instruction's row at that position. -/
def Obligations.RowsDoNotOverlap : Prop :=
  ∀ (p : Position) (i j : Instr) (b : Byte) (w w' : List Byte) (mask pat : Byte),
    encode i = .bytes p (b :: w) → encode j = .bytes p w' → j.row = some (mask, pat) →
    (b &&& mask = pat ↔ j.row = i.row)

/-- Words written out from 30_encoding.md R121-R129, one for each family, decode to the instruction they stand for. -/
def Obligations.SpecWordsDecode : Prop :=
  decodeAt .format [0xA0#8, 0x4C#8, 0x41#8] = .ok (.fmtExt80BF 2#2 false 76#11, [0x41#8]) ∧
  decodeAt .format [0x88#8, 0x13#8] = .ok (.fmtExt80BF 0#2 true 19#11, []) ∧
  decodeAt .format [0xF0#8, 0x13#8] = .ok (.fmtExtF0F0 0x13#8, []) ∧
  decodeAt .format [0x25#8] = .ok (.fmtShort 37#7, []) ∧
  decodeAt .format [0xF1#8] = .ok (.fmtUnsupF1F1, []) ∧
  decodeAt .address [0x08#8, 0x83#8] = .ok (.addrMore 4#7, [0x83#8]) ∧
  decodeAt .address [0x83#8] = .ok (.addrLast 65#7, []) ∧
  decodeAt .control [0x13#8] = .ok (.ctrl 0x13#8, []) ∧
  decodeAt .dateTime [0x0C#8] = .ok (.dtMarker12, []) ∧
  decodeAt .dateTime [0x09#8] = .ok (.dtSkip080B 1#2, []) ∧
  decodeAt .payload [0x02#8, 0x03#8] = .ok (.pdStruct, [0x03#8]) ∧
  decodeAt .peek [0x09#8] = .ok (.pdPeekObisKey, []) ∧
  decodeAt .peek [0x11#8] = .ok (.pdPeekDefaultKey1011 1#1, []) ∧
  decodeAt .value [0x12#8, 0x00#8, 0xEB#8] = .ok (.vd18, [0x00#8, 0xEB#8]) ∧
  decodeAt .value [0x1C#8] = .ok (.vdOther1C1F 0#2, [])

/-- A byte row executes only where its decode position stands in a running attempt; elsewhere its bytes are another
instruction, and it is refused (30_encoding.md R132; the refusal is the model's, log 11). -/
def Obligations.RowsRunOnlyAtTheirPosition : Prop :=
  ∀ (s : State) (i : Instr) (p : Position) (w : List Byte), encode i = .bytes p w →
    ((∃ t, exec i s = .next t) ↔ ∃ a, s.attempt = some a ∧ a.phase.position = p) ∧
    ((¬ ∃ a, s.attempt = some a ∧ a.phase.position = p) → exec i s = .refused .notAtPosition)

/-- The frame of all 89 byte rows (20_memory.md R81; 60_exceptions.md R504; 10_state.md R52). The host's ports are untouched.
Either the attempt goes on: then its registers alone change and the cursor has not moved back; or it ends with an outcome 1
to 9: then BUF keeps a suffix of its bytes, and the record registers change only with RECORD_OK. The premise that BUF is
canonical is part of `StepKeepsInvariant`. -/
def Obligations.ByteRowFrame : Prop :=
  ∀ (s t : State) (i : Instr) (p : Position) (w : List Byte) (a : Attempt), encode i = .bytes p w → s.buf.wf = true →
    s.attempt = some a → exec i s = .next t →
    t.inbox = s.inbox ∧ t.response = s.response ∧
    ((∃ b, t = { s with attempt := some b } ∧ a.c ≤ b.c) ∨
     (t.attempt = none ∧ 1 ≤ t.status.toNat ∧ t.status.toNat ≤ 9 ∧
      (∃ k, ∀ addr, t.buf.read addr = s.buf.read (k + addr)) ∧
      (t.status = 2#4 ∨ t.status = 3#4 ∨ t.status = 4#4 → ∀ addr, t.buf.read addr = s.buf.read addr) ∧
      (t.status = 1#4 → t.latestValid = true ∧ t.out = s.out ++ [t.latest]) ∧
      (t.status ≠ 1#4 → t.latest = s.latest ∧ t.latestValid = s.latestValid ∧ t.out = s.out)))

/-! ### The frame synchronizer and header parser -/

/-- FLAG (41_frame_sync.md R230-R233; R232 and the count of 14 rest on D4, D5): Fi is the flag's index, the `n` flags after it
are skipped, S is the byte after them. With 14 bytes from S on the header parse starts at S; with fewer the outcome is
INSUFF_SHORT (3) and BUF is untouched. -/
def Obligations.FlagRowSkipsIdleFill : Prop :=
  ∀ (s : State) (a : Attempt) (n : Nat) (rest : List Byte), s.standsAt a .flag →
    s.buf.bytes.drop (a.c + 1) = List.replicate n 0x7E#8 ++ rest → rest.head? ≠ some 0x7E#8 →
    (14 ≤ rest.length → exec .flag s = .next { s with attempt := some { a with
      fi := a.c, startOff := a.c + 1 + n, c := a.c + 1 + n, phase := .format } }) ∧
    (rest.length < 14 → exec .flag s = .next { s with status := 3#4, attempt := none })

/-- The short and the extended frame-format forms (41_frame_sync.md R234, 30_encoding.md R121, R122; the 1 + b1[6:4] rests on
D6) for FMT_SHORT and the four FMT_EXT rows, in the arithmetic of R234: FMT, SEG, DLEN and the cursor, where the frame is
complete. -/
def Obligations.FormatFieldsOfBytes : Prop :=
  ∀ (s : State) (a : Attempt) (row : Instr), s.standsAt a .format →
    (∀ b1 : Byte, encode row = .bytes .format [b1] → b1.toNat ≤ 0x7F →
      a.startOff + b1.toNat < s.buf.size →
      exec row s = .next { s with attempt := some { a with
        fmt := 0, seg := false, dlen := b1.toNat, c := a.c + 1, addrC := 0#32, phase := .client 0 } }) ∧
    (∀ b1 b2 : Byte, encode row = .bytes .format [b1, b2] →
      a.startOff + (b1.toNat % 8 * 256 + b2.toNat) < s.buf.size →
      exec row s = .next { s with attempt := some { a with
        fmt := b1.toNat / 128 + b1.toNat / 16 % 8, seg := b1.toNat / 8 % 2 == 1
        dlen := (b1.toNat % 8 * 256 + b2.toNat : Nat), c := a.c + 2, addrC := 0#32, phase := .client 0 } })

/-- The completeness guard (41_frame_sync.md R235): when S + DLEN < L does not hold, each of the five format rows ends the
attempt with INSUFF_INCOMPLETE (4), and BUF is untouched. -/
def Obligations.IncompleteFrameWaits : Prop :=
  ∀ (s : State) (a : Attempt), s.standsAt a .format →
    (∀ len : BitVec 7, ¬ (a.startOff + len.toNat < s.buf.size) →
      exec (.fmtShort len) s = .next { s with status := 4#4, attempt := none }) ∧
    (∀ (cls : BitVec 2) (cls' : BitVec 1) (seg : Bool) (len : BitVec 11), ¬ (a.startOff + len.toNat < s.buf.size) →
      exec (.fmtExt80BF cls seg len) s = .next { s with status := 4#4, attempt := none } ∧
      exec (.fmtExtC0DF cls' seg len) s = .next { s with status := 4#4, attempt := none } ∧
      exec (.fmtExtE0EF seg len) s = .next { s with status := 4#4, attempt := none }) ∧
    (∀ len : BitVec 8, ¬ (a.startOff + len.toNat < s.buf.size) →
      exec (.fmtExtF0F0 len) s = .next { s with status := 4#4, attempt := none })

/-- A frame-format byte from 0xF1 to 0xFF, the four FMT_UNSUP rows, ends the attempt with FORMAT_UNSUPPORTED (7) and BUF cut
to start at S (41_frame_sync.md R234 and R241 as D7 reads them; 30_encoding.md R123). -/
def Obligations.UnsupportedFormatResyncs : Prop :=
  ∀ (s : State) (a : Attempt) (row : Instr) (b1 : Byte), s.standsAt a .format →
    encode row = .bytes .format [b1] → 0xF1 ≤ b1.toNat →
    exec row s = .next
      { s with buf := Memory.ofBytes (s.buf.bytes.drop a.startOff), status := 7#4, attempt := none }

/-- An address byte, ADDR_MORE or ADDR_LAST (41_frame_sync.md R236, 30_encoding.md R124, R130; the 32-bit value rests on D10).
The whole byte enters the address, terminator bit and all. The address ends at a byte whose bit 0 is set or at its fourth;
after the client's comes the server's, after the server's the control byte. -/
def Obligations.AddressBytesAccumulate : Prop :=
  ∀ (s : State) (a : Attempt) (row : Instr) (b : Byte) (k : Nat), encode row = .bytes .address [b] →
    (s.standsAt a (.client k) →
      exec row s = .next { s with attempt := some (
        if b.getLsbD 0 = true ∨ 3 ≤ k then
          { a with addrC := accumulateAddress a.addrC b, c := a.c + 1, addrS := 0#32, phase := .server 0 }
        else { a with addrC := accumulateAddress a.addrC b, c := a.c + 1, phase := .client (k + 1) }) }) ∧
    (s.standsAt a (.server k) →
      exec row s = .next { s with attempt := some (
        if b.getLsbD 0 = true ∨ 3 ≤ k then
          { a with addrS := accumulateAddress a.addrS b, c := a.c + 1, phase := .control }
        else { a with addrS := accumulateAddress a.addrS b, c := a.c + 1, phase := .server (k + 1) }) })

/-- CTRL after a header CRC that matches (41_frame_sync.md R237, R239, R241, R242; the byte order and the DLEN guard rest on
D8, D9). Where the CRC of the bytes from S to the FCS matches too, CTRL is the byte as received, HCS and FCS are the values
on the wire, low byte first, and the cursor goes on past the two HCS bytes and the eight skipped ones. A declared length
below 2, or an FCS that differs, is FCS_MISMATCH (6), with BUF cut to start at S. -/
def Obligations.ControlRowChecksBothCrcs : Prop :=
  ∀ (s : State) (a : Attempt) (b h0 h1 : Byte), s.standsAt a .control →
    s.buf.bytes[a.c + 1]? = some h0 → s.buf.bytes[a.c + 2]? = some h1 →
    crc16 (slice s.buf.bytes a.startOff (a.c + 1)) = h1 ++ h0 →
    (∀ (p : Nat) (f0 f1 : Byte), 2 ≤ a.dlen → a.startOff + a.dlen = (p : Int) + 2 →
      s.buf.bytes[p]? = some f0 → s.buf.bytes[p + 1]? = some f1 →
      (crc16 (slice s.buf.bytes a.startOff p) = f1 ++ f0 →
        exec (.ctrl b) s = .next { s with attempt := some { a with
          ctrl := b, hcs := h1 ++ h0, fcs := f1 ++ f0, c := a.c + 11, phase := .dateTime 0 } }) ∧
      (crc16 (slice s.buf.bytes a.startOff p) ≠ f1 ++ f0 →
        exec (.ctrl b) s = .next
          { s with buf := Memory.ofBytes (s.buf.bytes.drop a.startOff), status := 6#4, attempt := none })) ∧
    (a.dlen < 2 → exec (.ctrl b) s = .next
      { s with buf := Memory.ofBytes (s.buf.bytes.drop a.startOff), status := 6#4, attempt := none })

/-- The header CRC (41_frame_sync.md R238): HCS is the little-endian value that follows the control byte; where the CRC of the
bytes from S to the cursor differs from it the outcome is HCS_MISMATCH (5) and BUF is cut to start at S; where it does not,
that is never the outcome, and an attempt that goes on holds HCS as read. -/
def Obligations.HeaderCrcMismatchResyncs : Prop :=
  ∀ (s : State) (a : Attempt) (b h0 h1 : Byte), s.standsAt a .control →
    s.buf.bytes[a.c + 1]? = some h0 → s.buf.bytes[a.c + 2]? = some h1 →
    (crc16 (slice s.buf.bytes a.startOff (a.c + 1)) ≠ h1 ++ h0 →
      exec (.ctrl b) s = .next
        { s with buf := Memory.ofBytes (s.buf.bytes.drop a.startOff), status := 5#4, attempt := none }) ∧
    (crc16 (slice s.buf.bytes a.startOff (a.c + 1)) = h1 ++ h0 → ∀ t, exec (.ctrl b) s = .next t →
      (t.attempt = none → t.status ≠ 5#4) ∧ ∀ next, t.attempt = some next → next.hcs = h1 ++ h0)

/-- The CRC loop of 41_frame_sync.md R240 (from general knowledge, K1; log 14) is the CRC of the parameters of 00_scope.md R16
read literally: polynomial 0x1021, initial and final value 0xFFFF, input and output reflected. -/
def Obligations.CrcLoopMeetsParameters : Prop :=
  ∀ bs : List Byte, crc16 bs = crcForward bs

/-- The date-time scan (41_frame_sync.md R243, D11, D12). DT_MARKER_EMPTY is a length of 0 and DT_MARKER_12 of 12, wherever
the scan stands. A byte that is no marker, the ten DT_SKIP rows, is skipped among the first 12; the 13th is the length byte
whatever its value. DT is the data without the length byte and the payload follows it; data past the end of BUF is
DECODE_OOB. -/
def Obligations.DateTimeScanIsBounded : Prop :=
  (∀ (s : State) (a : Attempt) (i n : Nat) (row : Instr), s.standsAt a (.dateTime i) →
    (row, n) ∈ [(Instr.dtMarkerEmpty, 0), (Instr.dtMarker12, 12)] ∨
      (12 ≤ i ∧ ∃ b : Byte, encode row = .bytes .dateTime [b] ∧ b ≠ 0x00#8 ∧ b ≠ 0x0C#8 ∧ n = b.toNat) →
    (a.c + 1 + n ≤ s.buf.size → exec row s = .next { s with attempt := some { a with
      dt := (s.buf.bytes.drop (a.c + 1)).take n, c := a.c + 1 + n, phase := .payload, merges := [] } }) ∧
    (s.buf.size < a.c + 1 + n → exec row s = .next { s with buf := [], status := 9#4, attempt := none })) ∧
  (∀ (s : State) (a : Attempt) (i : Nat) (row : Instr) (b : Byte), s.standsAt a (.dateTime i) →
    encode row = .bytes .dateTime [b] → b ≠ 0x00#8 → b ≠ 0x0C#8 → i < 12 →
    exec row s = .next { s with attempt := some { a with c := a.c + 1, phase := .dateTime (i + 1) } })

/-- The end of the decode (41_frame_sync.md R245, R246, R247, D24, D26, D27): the cut is three bytes past the final cursor, and
past the end of BUF it clears BUF; after DECODE_OOB it always clears. A success stores and emits the record whose header is
the working registers; a failure changes STATUS and BUF alone. -/
def Obligations.CommitTrimsAndPublishes : Prop :=
  ∀ (s : State) (a : Attempt) (p : Payload) (cf : Nat),
    (s.publish a p = { s with
      buf := if s.buf.size ≤ a.c + 3 then [] else Memory.ofBytes (s.buf.bytes.drop (a.c + 3))
      status := 1#4, attempt := none, latest := a.record p, latestValid := true, out := s.out ++ [a.record p] }) ∧
    a.record p = {
      header := {
        encoding := [0x41#8, 0x2D#8, 0x58#8, 0x44#8, 0x52#8], frameFormat := a.fmt, segmentation := a.seg
        dataLength := a.dlen, clientAddress := a.addrC, serverAddress := a.addrS, control := a.ctrl, headerCrc := a.hcs
        frameCrc := a.fcs, dateTime := a.dt }
      payload := p } ∧
    (s.raiseFail cf = { s with
      buf := if s.buf.size ≤ cf + 3 then [] else Memory.ofBytes (s.buf.bytes.drop (cf + 3))
      status := 8#4, attempt := none }) ∧
    (s.raiseOob = { s with buf := [], status := 9#4, attempt := none })

/-! ### The Payload Decoder -/

/-- Top-level tag 0 is a success: the empty mapping is returned, with the cursor one byte on (42_payload_decoder.md R301). -/
def Obligations.NullPayloadIsEmptyMapping : Prop :=
  ∀ (s : State) (a : Attempt), s.standsAt a .payload →
    exec .pdNull s = .next (s.deliverPayload { a with c := a.c + 1 } [] a.merges)

/-- PD_ARRAY and PD_STRUCT alike (42_payload_decoder.md R302, D17): a count of 0 returns the empty mapping after two bytes,
any other count leads to the peek with the cursor on the first element's tag, and a count past the end is DECODE_OOB.
PD_COMPACT (R310, D14) is fail(c + 1): its tag is consumed and nothing else. -/
def Obligations.PayloadCompositeReadsCount : Prop :=
  ∀ (s : State) (a : Attempt), s.standsAt a .payload →
    (∀ row ∈ [Instr.pdArray, Instr.pdStruct],
      (s.buf.bytes[a.c + 1]? = some 0#8 →
        exec row s = .next (s.deliverPayload { a with c := a.c + 2 } [] a.merges)) ∧
      (∀ n : Byte, s.buf.bytes[a.c + 1]? = some n → n ≠ 0#8 →
        exec row s = .next { s with attempt := some { a with c := a.c + 2, phase := .peek (n.toNat - 1) } }) ∧
      (s.buf.bytes[a.c + 1]? = none → exec row s = .next { s with buf := [], status := 9#4, attempt := none })) ∧
    exec .pdCompact s = .next (s.raiseFail (a.c + 1))

/-- Any other top-level tag, 3 to 18 or 20 to 255, the ten PD_OTHER rows: the result is fail(c + 1)
(42_payload_decoder.md R311). -/
def Obligations.OtherPayloadTagsFail : Prop :=
  ∀ (s : State) (a : Attempt) (row : Instr) (t : Byte), s.standsAt a .payload → encode row = .bytes .payload [t] →
    (3 ≤ t.toNat ∧ t.toNat ≤ 18) ∨ 20 ≤ t.toNat → exec row s = .next (s.raiseFail (a.c + 1))

/-- The merge branch (42_payload_decoder.md R303): a first element with tag 1, 2 or 19 (the three PD_PEEK_MERGE rows) starts it
without moving the cursor; each of the composite's elements is decoded as a payload, and the entries it returns are inserted
in order; after the last element the merged mapping is returned to the caller in turn. -/
def Obligations.MergeBranchFlattens : Prop :=
  (∀ (s : State) (a : Attempt) (more : Nat) (row : Instr), s.standsAt a (.peek more) →
    row ∈ [Instr.pdPeekMergeArray, Instr.pdPeekMergeStruct, Instr.pdPeekMergeCompact] →
    exec row s = .next { s with attempt := some { a with
      phase := .payload, merges := { left := more, entries := [] } :: a.merges } }) ∧
  (∀ (s : State) (a : Attempt) (p entries : Payload) (n : Nat) (ms : List MergeFrame),
    s.deliverPayload a p ({ left := n + 1, entries := entries } :: ms) =
      { s with attempt := some { a with
        phase := .payload, merges := { left := n, entries := mergeEntries entries p } :: ms } } ∧
    s.deliverPayload a p ({ left := 0, entries := entries } :: ms) =
      s.deliverPayload a (mergeEntries entries p) ms ∧
    s.deliverPayload a p [] = s.publish a p) ∧
  (∀ (m : Payload) (e : Entry) (p : Payload),
    mergeEntries m [] = m ∧ mergeEntries m (e :: p) = mergeEntries (insertEntry m e.key e.vals) p)

/-- A first element that is a string names the key and is used up (42_payload_decoder.md R304, R305, R307, D16, D44): the bytes
of a visible-string as they are, the OBIS text of an octet-string; the other `more` elements are the values. A string past
the end of BUF is DECODE_OOB. -/
def Obligations.StringFirstElementIsKey : Prop :=
  ∀ (s : State) (a : Attempt) (more : Nat), s.standsAt a (.peek more) →
    (∀ n : Byte, s.buf.bytes[a.c + 1]? = some n → a.c + 2 + n.toNat ≤ s.buf.size →
      let str := (s.buf.bytes.drop (a.c + 2)).take n.toNat
      exec .pdPeekVisibleKey s = .next (s.beginKeyed { a with c := a.c + 2 + n.toNat } str more) ∧
      exec .pdPeekObisKey s = .next (s.beginKeyed { a with c := a.c + 2 + n.toNat } (obis str) more)) ∧
    ((s.buf.bytes[a.c + 1]? = none ∨ ∃ n : Byte, s.buf.bytes[a.c + 1]? = some n ∧ s.buf.size < a.c + 2 + n.toNat) →
      exec .pdPeekVisibleKey s = .next { s with buf := [], status := 9#4, attempt := none } ∧
      exec .pdPeekObisKey s = .next { s with buf := [], status := 9#4, attempt := none })

/-- Any other first element, the thirteen PD_PEEK_DEFAULT_KEY rows: the key is "data", no byte is consumed for it, and all
`more + 1` elements are values, the first of them decoded as an ordinary value (42_payload_decoder.md R306). -/
def Obligations.DefaultKeyTakesAllElements : Prop :=
  ∀ (s : State) (a : Attempt) (more : Nat) (row : Instr) (p : Byte), s.standsAt a (.peek more) →
    encode row = .bytes .peek [p] → p ∉ [1#8, 2#8, 9#8, 10#8, 19#8] →
    exec row s = .next { s with attempt := some { a with
      phase := .value { key := [0x64#8, 0x61#8, 0x74#8, 0x61#8], left := more, vals := [] } [] } }

/-- How a decoded value returns to its caller (42_payload_decoder.md R307, R308, D16, D47; 43_axdr_value_decoder.md R352): an
open composite takes it as its next item and, after the last, is itself the value `seq`; a keyed composite takes it as its
next value and, after the last, returns the one entry of its key, CLOCK and then CLASS3 applied; with no value at all the
entry is empty. -/
def Obligations.ValuesReturnToCaller : Prop :=
  ∀ (s : State) (a : Attempt) (key : Text) (vals items : List Value) (v : Value) (n kl : Nat) (fs : List SeqFrame),
    s.deliverValue a { key := key, left := kl, vals := vals } v ({ left := n + 1, items := items } :: fs) =
      { s with attempt := some { a with
        phase := .value { key := key, left := kl, vals := vals } ({ left := n, items := items ++ [v] } :: fs) } } ∧
    s.deliverValue a { key := key, left := kl, vals := vals } v ({ left := 0, items := items } :: fs) =
      s.deliverValue a { key := key, left := kl, vals := vals } (.seq (ValueSeq.ofList (items ++ [v]))) fs ∧
    s.deliverValue a { key := key, left := n + 1, vals := vals } v [] =
      { s with attempt := some { a with phase := .value { key := key, left := n, vals := vals ++ [v] } [] } } ∧
    s.deliverValue a { key := key, left := 0, vals := vals } v [] =
      s.deliverPayload a [{ key := key, vals := class3 (clock key (vals ++ [v])) }] a.merges ∧
    s.beginKeyed a key 0 = s.deliverPayload a [{ key := key, vals := [] }] a.merges ∧
    s.beginKeyed a key (n + 1) =
      { s with attempt := some { a with phase := .value { key := key, left := n, vals := [] } [] } }

/-- The OBIS formatter (42_payload_decoder.md R312; lengths other than 5 and 6 rest on D20): each byte in unsigned decimal,
with "-" before the second, ":" before the third and "." before every later one. -/
def Obligations.ObisTextPattern : Prop :=
  obis [] = [] ∧
  ∀ (bs : List Byte) (b : Byte), obis (bs ++ [b]) =
    obis bs ++ (if bs.length = 0 then [] else if bs.length = 1 then [0x2D#8] else if bs.length = 2 then [0x3A#8]
      else [0x2E#8]) ++ dec b.toNat

/-- CLASS3 (42_payload_decoder.md R313, D21, D46): exactly the shape `[int, seq[int, unit]]` is scaled, to the exact number and
the unit as it is; every other list passes through unchanged. -/
def Obligations.Class3ScalesItsShapeOnly : Prop :=
  (∀ (k k2 : IntKind) (v e : Int) (unit : Value),
    class3 [.int k v, .seq (ValueSeq.ofList [.int k2 e, unit])] = [.scaled v e, unit]) ∧
  (∀ vals : List Value,
    class3 vals = vals ∨
      ∃ k k2 v e unit, vals = [.int k v, .seq (ValueSeq.ofList [.int k2 e, unit])])

/-- CLOCK (42_payload_decoder.md R314, D22): under the key "0-0:1.0.0.255" a first value of 12 octets becomes the text
"year-month-day hour:minute:second" with bytes 4 and 8 to 11 dropped; every other key or first value leaves the list. -/
def Obligations.ClockReformatsItsKeyOnly : Prop :=
  (∀ (b : List Byte) (rest : List Value), b.length = 12 →
    clock (obis [0#8, 0#8, 1#8, 0#8, 0#8, 255#8]) (.octets b :: rest) =
      .text (dec (((b.getD 0 0#8).toNat * 256 + (b.getD 1 0#8).toNat : Nat) : Int)
        ++ [0x2D#8] ++ pad2 (b.getD 2 0#8).toNat ++ [0x2D#8] ++ pad2 (b.getD 3 0#8).toNat
        ++ [0x20#8] ++ pad2 (b.getD 5 0#8).toNat ++ [0x3A#8] ++ pad2 (b.getD 6 0#8).toNat
        ++ [0x3A#8] ++ pad2 (b.getD 7 0#8).toNat) :: rest) ∧
  (∀ (key : Text) (vals : List Value),
    clock key vals = vals ∨
      (key = obis [0#8, 0#8, 1#8, 0#8, 0#8, 255#8] ∧ ∃ b rest, vals = .octets b :: rest ∧ b.length = 12))

/-- CLOCK and CLASS3 cannot both change a list, so their order has no effect (42_payload_decoder.md R308, D21, D22). -/
def Obligations.ClockAndClass3Commute : Prop :=
  ∀ (key : Text) (vals : List Value),
    (clock key vals = vals ∨ class3 vals = vals) ∧ class3 (clock key vals) = clock key (class3 vals)

/-- INSERT (42_payload_decoder.md R316, D19): a key already present keeps its place and takes the new values; a new key is
appended; no other entry changes; and merging keeps every key single (10_state.md R46). -/
def Obligations.InsertReplacesInPlace : Prop :=
  (∀ (m : Payload) (k : Text) (v : List Value), k ∉ m.map Entry.key →
    insertEntry m k v = m ++ [{ key := k, vals := v }]) ∧
  (∀ (before after : Payload) (k : Text) (old v : List Value), k ∉ before.map Entry.key →
    insertEntry (before ++ { key := k, vals := old } :: after) k v = before ++ { key := k, vals := v } :: after) ∧
  (∀ m p : Payload, (m.map Entry.key).Nodup → ((mergeEntries m p).map Entry.key).Nodup)

/-! ### The Value Decoder -/

/-- VD_0 and the composites VD_1 and VD_2 (43_axdr_value_decoder.md R352, R353, D15, D33): null is a value of one byte; a count
of 0 gives the empty `seq` after two bytes, any other count opens a composite of that many elements. -/
def Obligations.NullAndCompositeRows : Prop :=
  ∀ (s : State) (a : Attempt) (kv : Keyed) (calls : List SeqFrame), s.standsAt a (.value kv calls) →
    exec .vd0 s = .next (s.deliverValue { a with c := a.c + 1 } kv .null calls) ∧
    ∀ row ∈ [Instr.vd1, Instr.vd2],
      (s.buf.bytes[a.c + 1]? = some 0#8 →
        exec row s = .next (s.deliverValue { a with c := a.c + 2 } kv (.seq .nil) calls)) ∧
      (∀ n : Byte, s.buf.bytes[a.c + 1]? = some n → n ≠ 0#8 →
        exec row s = .next { s with attempt := some { a with
          c := a.c + 2, phase := .value kv ({ left := n.toNat - 1, items := [] } :: calls) } })

/-- The integer tags (43_axdr_value_decoder.md R355-R361, R365, R366): w bytes, big-endian, two's complement for a signed
kind, and the exact value of that kind, with the cursor past tag and body. -/
def Obligations.IntegerRowsAreExact : Prop :=
  ∀ (s : State) (a : Attempt) (kv : Keyed) (calls : List SeqFrame) (row : Instr) (k : IntKind) (w : Nat)
    (signed : Bool), s.standsAt a (.value kv calls) →
    (row, k, w, signed) ∈
      [(Instr.vd5, IntKind.i32, 4, true), (Instr.vd6, IntKind.u32, 4, false), (Instr.vd15, IntKind.i8, 1, true),
       (Instr.vd16, IntKind.i16, 2, true), (Instr.vd17, IntKind.u8, 1, false), (Instr.vd18, IntKind.u16, 2, false),
       (Instr.vd20, IntKind.i64, 8, true), (Instr.vd21, IntKind.u64, 8, false)] →
    a.c + 1 + w ≤ s.buf.size →
    let u := be ((s.buf.bytes.drop (a.c + 1)).take w)
    let v : Int := if signed then (if 2 ^ (8 * w - 1) ≤ u then (u : Int) - 2 ^ (8 * w) else u) else u
    exec row s = .next (s.deliverValue { a with c := a.c + 1 + w } kv (.int k v) calls) ∧ intInRange k v = true

/-- How multi-byte operands are assembled (00_scope.md R23; 30_encoding.md R130, D9, D10): `be` is the positional big-endian
value; le16 puts the second byte high; one more address byte is the sum modulo 2^32, and for the at most four bytes of an
address the result is their big-endian value, with nothing discarded. -/
def Obligations.MultiByteAssembly : Prop :=
  (∀ bs : List Byte, be bs =
    ((List.range bs.length).map fun i => (bs.getD i 0#8).toNat * 256 ^ (bs.length - 1 - i)).sum) ∧
  (∀ b0 b1 : Byte, (le16 b0 b1).toNat = b0.toNat + 256 * b1.toNat) ∧
  (∀ (acc : BitVec 32) (b : Byte), (accumulateAddress acc b).toNat = (acc.toNat * 256 + b.toNat) % 2 ^ 32) ∧
  (∀ bs : List Byte, bs.length ≤ 4 → (bs.foldl accumulateAddress 0#32).toNat = be bs)

/-- The octet-string (43_axdr_value_decoder.md R362): a length byte 0 to 255, then that many bytes, kept as received and
rendered as hex. -/
def Obligations.OctetStringRow : Prop :=
  ∀ (s : State) (a : Attempt) (kv : Keyed) (calls : List SeqFrame) (n : Byte), s.standsAt a (.value kv calls) →
    s.buf.bytes[a.c + 1]? = some n → a.c + 2 + n.toNat ≤ s.buf.size →
    let bs := (s.buf.bytes.drop (a.c + 2)).take n.toNat
    exec .vd9 s = .next (s.deliverValue { a with c := a.c + 2 + n.toNat } kv (.octets bs) calls) ∧
    renderValue (.octets bs) = some (hex bs)

/-- The boolean is true for any nonzero byte, and an enumeration is the unit symbol of its code, or "*" where the table has
none (43_axdr_value_decoder.md R354, R373). -/
def Obligations.BooleanAndEnumRows : Prop :=
  ∀ (s : State) (a : Attempt) (kv : Keyed) (calls : List SeqFrame) (b : Byte), s.standsAt a (.value kv calls) →
    s.buf.bytes[a.c + 1]? = some b →
    exec .vd3 s = .next (s.deliverValue { a with c := a.c + 2 } kv (.bool (decide (b.toNat ≠ 0))) calls) ∧
    exec .vd22 s = .next (s.deliverValue { a with c := a.c + 2 } kv
      (.unit (match unitTable b with | some sym => sym | none => [0x2A#8])) calls)

/-- The visible-string and the utf8-string are as the octet-string, with the bytes kept as received and not checked (D23, D50);
the bit-string is one byte, rendered as 8 characters with bit 7 first; BCD is one byte, rendered as two hex digits with no
digit check (D13): 43_axdr_value_decoder.md sections 3 and 5. How a text that is not printable renders is open (log 7). -/
def Obligations.TextBitStringAndBcdRows : Prop :=
  ∀ (s : State) (a : Attempt) (kv : Keyed) (calls : List SeqFrame) (n : Byte), s.standsAt a (.value kv calls) →
    s.buf.bytes[a.c + 1]? = some n →
    (a.c + 2 + n.toNat ≤ s.buf.size →
      let bs := (s.buf.bytes.drop (a.c + 2)).take n.toNat
      exec .vd10 s = .next (s.deliverValue { a with c := a.c + 2 + n.toNat } kv (.visible bs) calls) ∧
      exec .vd12 s = .next (s.deliverValue { a with c := a.c + 2 + n.toNat } kv (.utf8 bs) calls) ∧
      ((∀ b ∈ bs, 0x20 ≤ b.toNat ∧ b.toNat ≤ 0x7E) → renderValue (.visible bs) = some bs)) ∧
    exec .vd4 s = .next (s.deliverValue { a with c := a.c + 2 } kv (.bits n) calls) ∧
    exec .vd13 s = .next (s.deliverValue { a with c := a.c + 2 } kv (.bcd n) calls) ∧
    (∀ i, i < 8 → (bitText n)[i]? = some (if n.toNat / 2 ^ (7 - i) % 2 = 1 then 0x31#8 else 0x30#8)) ∧
    (bitText n).length = 8 ∧ renderValue (.bits n) = some (bitText n) ∧ renderValue (.bcd n) = some (hex [n])

/-- The fixed-length blobs (43_axdr_value_decoder.md R370, R371, R372): date-time 12 bytes, date 5, time 4, kept as received
and rendered as hex; not reformatted, even under the clock key. -/
def Obligations.FixedBlobRows : Prop :=
  ∀ (s : State) (a : Attempt) (kv : Keyed) (calls : List SeqFrame) (row : Instr) (n : Nat) (mk : List Byte → Value),
    s.standsAt a (.value kv calls) →
    (row, n, mk) = (Instr.vd25, 12, Value.datetime) ∨ (row, n, mk) = (Instr.vd26, 5, Value.date) ∨
      (row, n, mk) = (Instr.vd27, 4, Value.time) →
    a.c + 1 + n ≤ s.buf.size →
    let bs := (s.buf.bytes.drop (a.c + 1)).take n
    exec row s = .next (s.deliverValue { a with c := a.c + 1 + n } kv (mk bs) calls) ∧
    renderValue (mk bs) = some (hex bs) ∧ ∀ key rest, clock key (mk bs :: rest) = mk bs :: rest

/-- The unsupported tags 7, 8, 11, 14, 19, 23, 24 and 28 to 255: the result is fail(c) right after the tag, wherever the value
stands, so the enclosing composites fail with it (43_axdr_value_decoder.md R374, R375, R376). -/
def Obligations.UnsupportedTagsFail : Prop :=
  ∀ (s : State) (a : Attempt) (kv : Keyed) (calls : List SeqFrame) (row : Instr) (t : Byte),
    s.standsAt a (.value kv calls) → encode row = .bytes .value [t] →
    t.toNat ∈ [7, 8, 11, 14, 19, 23, 24] ∨ 28 ≤ t.toNat →
    exec row s = .next (s.raiseFail (a.c + 1))

/-- A value whose body runs past the end of BUF is DECODE_OOB (9), and BUF is cleared (43_axdr_value_decoder.md R379, derived
there; 20_memory.md R82, D24). -/
def Obligations.BodyPastEndIsOutOfBounds : Prop :=
  ∀ (s : State) (a : Attempt) (kv : Keyed) (calls : List SeqFrame) (row : Instr), s.standsAt a (.value kv calls) →
    (∀ n : Nat, (row, n) ∈ [(Instr.vd3, 1), (Instr.vd4, 1), (Instr.vd5, 4), (Instr.vd6, 4), (Instr.vd13, 1),
        (Instr.vd15, 1), (Instr.vd16, 2), (Instr.vd17, 1), (Instr.vd18, 2), (Instr.vd20, 8), (Instr.vd21, 8),
        (Instr.vd22, 1), (Instr.vd25, 12), (Instr.vd26, 5), (Instr.vd27, 4), (Instr.vd1, 1), (Instr.vd2, 1),
        (Instr.vd9, 1), (Instr.vd10, 1), (Instr.vd12, 1)] →
      s.buf.size < a.c + 1 + n → exec row s = .next { s with buf := [], status := 9#4, attempt := none }) ∧
    (∀ n : Byte, row ∈ [Instr.vd9, Instr.vd10, Instr.vd12] → s.buf.bytes[a.c + 1]? = some n →
      s.buf.size < a.c + 2 + n.toNat → exec row s = .next { s with buf := [], status := 9#4, attempt := none })

/-- What D00 pins of the Unit Table (43_axdr_value_decoder.md section 10; codes 0 and 73 to 255 rest on D48): 1, 27 and 44 have
their symbols and the rest of the pinned codes have none. The other codes are open (log 5), and nothing is stated of them. -/
def Obligations.UnitTablePinnedCodes : Prop :=
  unitTable 1#8 = some [0x61#8] ∧ unitTable 27#8 = some [0x57#8] ∧ unitTable 44#8 = some [0x48#8, 0x7A#8] ∧
  (∀ code : Byte, code.toNat = 0 ∨ 73 ≤ code.toNat → unitTable code = none ∧ unitSymbol code = [0x2A#8])

/-- The rendering functions `dec`, `hex` and `pad2` (00_scope.md R25, D13). `dec` is the shortest decimal numeral: its digits
read back to the number, every one of them is a digit, none leads with 0 but 0 itself, and a negative number has a leading
minus sign. `hex` is two lowercase digits a byte, the high nibble first, with no separator. `pad2` of 0 to 9 is that digit
after a 0, and of any larger number its whole decimal numeral, never truncated. -/
def Obligations.NumeralRenderingIsExact : Prop :=
  (∀ n : Nat,
    (decNat n).foldl (fun acc d => acc * 10 + (d.toNat - 0x30)) 0 = n ∧
    (∀ d ∈ decNat n, 0x30 ≤ d.toNat ∧ d.toNat ≤ 0x39) ∧ decNat n ≠ [] ∧
    ((decNat n).head? = some 0x30#8 → n = 0 ∧ decNat n = [0x30#8])) ∧
  (∀ n : Nat, dec n = decNat n ∧ (0 < n → dec (-(n : Int)) = 0x2D#8 :: decNat n)) ∧
  (hex [] = [] ∧ ∀ (b : Byte) (bs : List Byte), ∃ high low : Byte, hex (b :: bs) = high :: low :: hex bs ∧
    high.toNat = (if b.toNat / 16 < 10 then 0x30 + b.toNat / 16 else 0x61 + (b.toNat / 16 - 10)) ∧
    low.toNat = (if b.toNat % 16 < 10 then 0x30 + b.toNat % 16 else 0x61 + (b.toNat % 16 - 10))) ∧
  (∀ n : Nat, n ≤ 9 → ∃ d : Byte, pad2 n = [0x30#8, d] ∧ d.toNat = 0x30 + n) ∧
  (∀ n : Nat, 9 < n → pad2 n = decNat n)

/-- The buffer's write primitives (20_memory.md R89, R90, R91): append adds the chunk after the held bytes, dropFront keeps the
bytes from k on and renumbers them from 0, clear leaves none; each keeps the canonical form. -/
def Obligations.BufferPrimitives : Prop :=
  (∀ (m : Memory) (chunk : List Byte) (addr : Nat), m.wf = true →
    (m.append chunk).read addr = if addr < m.size then m.read addr else chunk[addr - m.size]?) ∧
  (∀ (m : Memory) (k addr : Nat), m.wf = true → (m.dropFront k).read addr = m.read (k + addr)) ∧
  (∀ addr : Nat, Memory.clear.read addr = none) ∧
  (∀ (m : Memory) (k : Nat), m.wf = true → (m.dropFront k).wf = true ∧ (m.size ≤ k → m.dropFront k = [])) ∧
  (∀ (m : Memory) (chunk : List Byte), m.size + chunk.length ≤ 2048 → (m.append chunk).wf = true)

end
end

