-- ==== Sys2Proof/Laws/State.lean ====
section
/-! SUPPORT. One lemma per field of State per update of it. -/

namespace Sys2Proof.Machine

variable (s : State)

@[simp] theorem State.resume_buf (a : Attempt) : (s.resume a).buf = s.buf := rfl
@[simp] theorem State.resume_latest (a : Attempt) : (s.resume a).latest = s.latest := rfl
@[simp] theorem State.resume_latestValid (a : Attempt) : (s.resume a).latestValid = s.latestValid := rfl
@[simp] theorem State.resume_status (a : Attempt) : (s.resume a).status = s.status := rfl
@[simp] theorem State.resume_out (a : Attempt) : (s.resume a).out = s.out := rfl
@[simp] theorem State.resume_attempt (a : Attempt) : (s.resume a).attempt = some a := rfl
@[simp] theorem State.resume_inbox (a : Attempt) : (s.resume a).inbox = s.inbox := rfl
@[simp] theorem State.resume_response (a : Attempt) : (s.resume a).response = s.response := rfl

@[simp] theorem State.endAttempt_buf (oc : ParseOutcome) (m : Memory) : (s.endAttempt oc m).buf = m := rfl
@[simp] theorem State.endAttempt_latest (oc : ParseOutcome) (m : Memory) : (s.endAttempt oc m).latest = s.latest := rfl
@[simp] theorem State.endAttempt_latestValid (oc : ParseOutcome) (m : Memory) : (s.endAttempt oc m).latestValid = s.latestValid := rfl
@[simp] theorem State.endAttempt_status (oc : ParseOutcome) (m : Memory) : (s.endAttempt oc m).status = oc.code := rfl
@[simp] theorem State.endAttempt_out (oc : ParseOutcome) (m : Memory) : (s.endAttempt oc m).out = s.out := rfl
@[simp] theorem State.endAttempt_attempt (oc : ParseOutcome) (m : Memory) : (s.endAttempt oc m).attempt = none := rfl
@[simp] theorem State.endAttempt_inbox (oc : ParseOutcome) (m : Memory) : (s.endAttempt oc m).inbox = s.inbox := rfl
@[simp] theorem State.endAttempt_response (oc : ParseOutcome) (m : Memory) : (s.endAttempt oc m).response = s.response := rfl

@[simp] theorem State.endInsufficient_buf (oc : ParseOutcome) : (s.endInsufficient oc).buf = s.buf := rfl
@[simp] theorem State.endInsufficient_latest (oc : ParseOutcome) : (s.endInsufficient oc).latest = s.latest := rfl
@[simp] theorem State.endInsufficient_latestValid (oc : ParseOutcome) : (s.endInsufficient oc).latestValid = s.latestValid := rfl
@[simp] theorem State.endInsufficient_status (oc : ParseOutcome) : (s.endInsufficient oc).status = oc.code := rfl
@[simp] theorem State.endInsufficient_out (oc : ParseOutcome) : (s.endInsufficient oc).out = s.out := rfl
@[simp] theorem State.endInsufficient_attempt (oc : ParseOutcome) : (s.endInsufficient oc).attempt = none := rfl
@[simp] theorem State.endInsufficient_inbox (oc : ParseOutcome) : (s.endInsufficient oc).inbox = s.inbox := rfl
@[simp] theorem State.endInsufficient_response (oc : ParseOutcome) : (s.endInsufficient oc).response = s.response := rfl

@[simp] theorem State.endResync_buf (a : Attempt) (oc : ParseOutcome) : (s.endResync a oc).buf = s.buf.dropFront a.startOff := rfl
@[simp] theorem State.endResync_latest (a : Attempt) (oc : ParseOutcome) : (s.endResync a oc).latest = s.latest := rfl
@[simp] theorem State.endResync_latestValid (a : Attempt) (oc : ParseOutcome) : (s.endResync a oc).latestValid = s.latestValid := rfl
@[simp] theorem State.endResync_status (a : Attempt) (oc : ParseOutcome) : (s.endResync a oc).status = oc.code := rfl
@[simp] theorem State.endResync_out (a : Attempt) (oc : ParseOutcome) : (s.endResync a oc).out = s.out := rfl
@[simp] theorem State.endResync_attempt (a : Attempt) (oc : ParseOutcome) : (s.endResync a oc).attempt = none := rfl
@[simp] theorem State.endResync_inbox (a : Attempt) (oc : ParseOutcome) : (s.endResync a oc).inbox = s.inbox := rfl
@[simp] theorem State.endResync_response (a : Attempt) (oc : ParseOutcome) : (s.endResync a oc).response = s.response := rfl

@[simp] theorem State.raiseFail_buf (cf : Nat) : (s.raiseFail cf).buf = Memory.commitTrim Config.params.trimSkip s.buf cf := rfl
@[simp] theorem State.raiseFail_latest (cf : Nat) : (s.raiseFail cf).latest = s.latest := rfl
@[simp] theorem State.raiseFail_latestValid (cf : Nat) : (s.raiseFail cf).latestValid = s.latestValid := rfl
@[simp] theorem State.raiseFail_status (cf : Nat) : (s.raiseFail cf).status = 8#4 := rfl
@[simp] theorem State.raiseFail_out (cf : Nat) : (s.raiseFail cf).out = s.out := rfl
@[simp] theorem State.raiseFail_attempt (cf : Nat) : (s.raiseFail cf).attempt = none := rfl
@[simp] theorem State.raiseFail_inbox (cf : Nat) : (s.raiseFail cf).inbox = s.inbox := rfl
@[simp] theorem State.raiseFail_response (cf : Nat) : (s.raiseFail cf).response = s.response := rfl

@[simp] theorem State.raiseOob_buf : (s.raiseOob).buf = Memory.commitTrim Config.params.trimSkip s.buf s.buf.size := rfl
@[simp] theorem State.raiseOob_latest : (s.raiseOob).latest = s.latest := rfl
@[simp] theorem State.raiseOob_latestValid : (s.raiseOob).latestValid = s.latestValid := rfl
@[simp] theorem State.raiseOob_status : (s.raiseOob).status = 9#4 := rfl
@[simp] theorem State.raiseOob_out : (s.raiseOob).out = s.out := rfl
@[simp] theorem State.raiseOob_attempt : (s.raiseOob).attempt = none := rfl
@[simp] theorem State.raiseOob_inbox : (s.raiseOob).inbox = s.inbox := rfl
@[simp] theorem State.raiseOob_response : (s.raiseOob).response = s.response := rfl

@[simp] theorem State.publish_buf (a : Attempt) (p : Payload) : (s.publish a p).buf = Memory.commitTrim Config.params.trimSkip s.buf a.c := rfl
@[simp] theorem State.publish_latest (a : Attempt) (p : Payload) : (s.publish a p).latest = a.record p := rfl
@[simp] theorem State.publish_latestValid (a : Attempt) (p : Payload) : (s.publish a p).latestValid = true := rfl
@[simp] theorem State.publish_status (a : Attempt) (p : Payload) : (s.publish a p).status = 1#4 := rfl
@[simp] theorem State.publish_out (a : Attempt) (p : Payload) : (s.publish a p).out = s.out ++ [a.record p] := rfl
@[simp] theorem State.publish_attempt (a : Attempt) (p : Payload) : (s.publish a p).attempt = none := rfl
@[simp] theorem State.publish_inbox (a : Attempt) (p : Payload) : (s.publish a p).inbox = s.inbox := rfl
@[simp] theorem State.publish_response (a : Attempt) (p : Payload) : (s.publish a p).response = s.response := rfl

@[simp] theorem State.beginPush_buf (chunk : List Byte) : (s.beginPush chunk).buf = s.buf.receive chunk := rfl
@[simp] theorem State.beginPush_latest (chunk : List Byte) : (s.beginPush chunk).latest = s.latest := rfl
@[simp] theorem State.beginPush_latestValid (chunk : List Byte) : (s.beginPush chunk).latestValid = s.latestValid := rfl
@[simp] theorem State.beginPush_status (chunk : List Byte) : (s.beginPush chunk).status = s.status := rfl
@[simp] theorem State.beginPush_out (chunk : List Byte) : (s.beginPush chunk).out = s.out := rfl
@[simp] theorem State.beginPush_attempt (chunk : List Byte) : (s.beginPush chunk).attempt = some Attempt.start := rfl
@[simp] theorem State.beginPush_inbox (chunk : List Byte) : (s.beginPush chunk).inbox = s.inbox := rfl
@[simp] theorem State.beginPush_response (chunk : List Byte) : (s.beginPush chunk).response = none := rfl

/-- Resuming an attempt that already stands there changes nothing. -/
theorem State.resume_self {s : State} {a : Attempt} (h : s.attempt = some a) : s.resume a = s := by
  cases s
  cases h
  rfl

@[simp] theorem State.resume_resume (a b : Attempt) : (s.resume a).resume b = s.resume b := rfl

@[simp] theorem State.endAttempt_resume (a : Attempt) (oc : ParseOutcome) (m : Memory) :
    (s.resume a).endAttempt oc m = s.endAttempt oc m := rfl

@[simp] theorem State.endInsufficient_resume (a : Attempt) (oc : ParseOutcome) :
    (s.resume a).endInsufficient oc = s.endInsufficient oc := rfl

@[simp] theorem State.endResync_resume (a b : Attempt) (oc : ParseOutcome) :
    (s.resume a).endResync b oc = s.endResync b oc := rfl

@[simp] theorem State.raiseFail_resume (a : Attempt) (cf : Nat) : (s.resume a).raiseFail cf = s.raiseFail cf := rfl

@[simp] theorem State.raiseOob_resume (a : Attempt) : (s.resume a).raiseOob = s.raiseOob := rfl

@[simp] theorem State.publish_resume (a b : Attempt) (p : Payload) :
    (s.resume a).publish b p = s.publish b p := rfl

end Sys2Proof.Machine
end

