-- ==== Sys2Proof/Laws/Memory.lean ====
section
/-! SUPPORT. The buffer as a memory: its byte view, its canonical form, and that every operation keeps it
(20_memory.md R80-R91). -/

namespace Sys2Proof.Machine

theorem Memory.bytes_ofBytesFrom (a : Nat) (bs : List Byte) : (Memory.ofBytesFrom a bs).bytes = bs := by
  induction bs generalizing a with
  | nil => rfl
  | cons b bs ih => simpa [Memory.ofBytesFrom, Memory.bytes] using ih (a + 1)

@[simp] theorem Memory.bytes_ofBytes (bs : List Byte) : (Memory.ofBytes bs).bytes = bs :=
  Memory.bytes_ofBytesFrom 0 bs

@[simp] theorem Memory.length_bytes (m : Memory) : m.bytes.length = m.size := by
  simp [Memory.bytes, Memory.size]

@[simp] theorem Memory.size_ofBytes (bs : List Byte) : (Memory.ofBytes bs).size = bs.length := by
  rw [← Memory.length_bytes, Memory.bytes_ofBytes]

@[simp] theorem Memory.ofBytes_nil : Memory.ofBytes [] = [] := rfl

@[simp] theorem Memory.bytes_append (m : Memory) (chunk : List Byte) : (m.append chunk).bytes = m.bytes ++ chunk := by
  simp [Memory.append]

@[simp] theorem Memory.bytes_dropFront (m : Memory) (k : Nat) : (m.dropFront k).bytes = m.bytes.drop k := by
  simp [Memory.dropFront]

@[simp] theorem Memory.bytes_clear : Memory.clear.bytes = [] := rfl

@[simp] theorem Memory.size_clear : Memory.clear.size = 0 := rfl

/-- The commit trim drops up to `cf + skip` and nothing else (R246). -/
@[simp] theorem Memory.bytes_commitTrim (skip : Nat) (m : Memory) (cf : Nat) :
    (Memory.commitTrim skip m cf).bytes = m.bytes.drop (cf + skip) := by
  unfold Memory.commitTrim
  split
  · rename_i h
    rw [List.drop_eq_nil_of_le (by simpa using h)]
    rfl
  · simp

/-- The commit trim answers the memory of the bytes it keeps. -/
theorem Memory.commitTrim_eq (skip : Nat) (m : Memory) (cf : Nat) :
    Memory.commitTrim skip m cf = Memory.ofBytes (m.bytes.drop (cf + skip)) := by
  unfold Memory.commitTrim
  split
  · rename_i h
    rw [List.drop_eq_nil_of_le (by simpa using h)]
    rfl
  · rfl

/-- BUF after a PUSH's overflow test and append (R202, R203). -/
theorem Memory.bytes_receive (m : Memory) (chunk : List Byte) :
    (m.receive chunk).bytes =
      (if m.size + chunk.length > Config.params.maxBuffer then [] else m.bytes) ++ chunk := by
  unfold Memory.receive
  split <;> simp

theorem Memory.receive_eq_ofBytes (m : Memory) (chunk : List Byte) :
    m.receive chunk = Memory.ofBytes (m.receive chunk).bytes := by
  simp [Memory.receive, Memory.append]

/-- The canonical form, as an equation and a bound. -/
theorem Memory.wf_iff (m : Memory) :
    m.wf = true ↔ m = Memory.ofBytes m.bytes ∧ m.size ≤ Config.params.maxBuffer := by
  simp [Memory.wf]

theorem Memory.ofBytes_wf {bs : List Byte} (h : bs.length ≤ Config.params.maxBuffer) :
    (Memory.ofBytes bs).wf = true := by
  rw [Memory.wf_iff]
  simpa using h

theorem Memory.clear_wf : Memory.clear.wf = true := by decide

theorem Memory.dropFront_wf {m : Memory} (h : m.wf = true) (k : Nat) : (m.dropFront k).wf = true := by
  rw [Memory.wf_iff] at h
  refine Memory.ofBytes_wf ?_
  rw [List.length_drop, Memory.length_bytes]
  omega

theorem Memory.commitTrim_wf {m : Memory} (h : m.wf = true) (skip cf : Nat) :
    (Memory.commitTrim skip m cf).wf = true := by
  unfold Memory.commitTrim
  split
  · exact Memory.clear_wf
  · exact Memory.dropFront_wf h _

theorem Memory.receive_wf (m : Memory) {chunk : List Byte} (h : chunk.length ≤ Config.params.maxChunk) :
    (m.receive chunk).wf = true := by
  rw [Memory.receive_eq_ofBytes]
  refine Memory.ofBytes_wf ?_
  rw [Memory.bytes_receive]
  have : Config.params.maxChunk = Config.params.maxBuffer := rfl
  split <;> simp <;> omega

/-- In the canonical form addresses strictly rise. -/
theorem Memory.ofBytesFrom_lt (a : Nat) (bs : List Byte) : ∀ cell ∈ Memory.ofBytesFrom a bs, a ≤ cell.1 := by
  induction bs generalizing a with
  | nil => simp [Memory.ofBytesFrom]
  | cons b bs ih =>
    intro cell h
    rcases List.mem_cons.mp h with rfl | h
    · exact Nat.le_refl _
    · have := ih (a + 1) cell h
      omega

theorem Memory.ofBytesFrom_sorted (a : Nat) (bs : List Byte) :
    (Memory.ofBytesFrom a bs).Pairwise fun x y => x.1 < y.1 := by
  induction bs generalizing a with
  | nil => simp [Memory.ofBytesFrom]
  | cons b bs ih =>
    refine List.Pairwise.cons ?_ (ih (a + 1))
    intro cell h
    have := Memory.ofBytesFrom_lt (a + 1) bs cell h
    simp only
    omega

theorem Memory.wf_sorted {m : Memory} (h : m.wf = true) : m.Pairwise fun x y => x.1 < y.1 := by
  rw [((Memory.wf_iff m).mp h).1]
  exact Memory.ofBytesFrom_sorted 0 _

/-- Reading an address of the memory of a byte list is reading the list. -/
theorem Memory.read_ofBytesFrom (a i : Nat) (bs : List Byte) :
    (Memory.ofBytesFrom a bs).read (a + i) = bs[i]? := by
  induction bs generalizing a i with
  | nil => rfl
  | cons b bs ih =>
    cases i with
    | zero => simp [Memory.ofBytesFrom, Memory.read]
    | succ i =>
      have h := ih (a + 1) i
      have e : a + 1 + i = a + (i + 1) := by omega
      rw [e] at h
      simpa [Memory.ofBytesFrom, Memory.read] using h

@[simp] theorem Memory.read_ofBytes (bs : List Byte) (i : Nat) : (Memory.ofBytes bs).read i = bs[i]? := by
  have h := Memory.read_ofBytesFrom 0 i bs
  rwa [Nat.zero_add] at h

theorem Memory.read_of_wf {m : Memory} (h : m.wf = true) (i : Nat) : m.read i = m.bytes[i]? := by
  conv_lhs => rw [((Memory.wf_iff m).mp h).1]
  simp

/-- Read after append: the old bytes stand, the new ones follow them. -/
theorem Memory.read_append (m : Memory) (chunk : List Byte) (i : Nat) :
    (m.append chunk).read i = (m.bytes ++ chunk)[i]? := by
  simp [Memory.append]

/-- Read after drop-front: what stood `k` further on. -/
theorem Memory.read_dropFront (m : Memory) (k i : Nat) : (m.dropFront k).read i = m.bytes[k + i]? := by
  simp [Memory.dropFront]

end Sys2Proof.Machine
end

