-- ==== Sys2Proof/Laws/Operands.lean ====
section
/-! SUPPORT. What the reads of the byte view answer (20_memory.md R82), and the ranges of assembled operands
(30_encoding.md R130). -/

namespace Sys2Proof.Machine

theorem length_slice (view : List Byte) (i j : Nat) : (slice view i j).length = min (j - i) (view.length - i) := by
  simp [slice]

/-- MemRead answers exactly the slice, where it is in bounds. -/
theorem memRead_eq_some {view : List Byte} {addr n : Nat} {bs : List Byte} :
    memRead view addr n = some bs ↔ addr + n ≤ view.length ∧ bs = slice view addr (addr + n) := by
  unfold memRead
  split
  · simp
    omega
  · simp only [Option.some.injEq]
    constructor
    · rintro rfl
      exact ⟨by omega, rfl⟩
    · rintro ⟨_, rfl⟩
      rfl

/-- MemRead raises DecodeOOB exactly when the read runs past the end. -/
theorem memRead_eq_none {view : List Byte} {addr n : Nat} :
    memRead view addr n = none ↔ view.length < addr + n := by
  unfold memRead
  split <;> simp <;> omega

theorem memRead_length {view : List Byte} {addr n : Nat} {bs : List Byte} (h : memRead view addr n = some bs) :
    bs.length = n := by
  obtain ⟨hle, rfl⟩ := memRead_eq_some.mp h
  rw [length_slice]
  omega

/-- rd8 reads the byte at the index. -/
theorem rd8_eq (view : List Byte) (addr : Nat) : rd8 view addr = view[addr]? := by
  unfold rd8
  cases h : memRead view addr 1 with
  | none =>
    have := memRead_eq_none.mp h
    simp
    omega
  | some bs =>
    obtain ⟨hle, rfl⟩ := memRead_eq_some.mp h
    simp only [Option.bind_some, slice]
    rw [List.head?_take, if_neg (by omega), List.head?_drop]

theorem rd8_eq_some {view : List Byte} {addr : Nat} {b : Byte} (h : rd8 view addr = some b) :
    addr < view.length := by
  rw [rd8_eq] at h
  exact (List.getElem?_eq_some_iff.mp h).1

theorem rd8_eq_none {view : List Byte} {addr : Nat} (h : rd8 view addr = none) : view.length ≤ addr := by
  rw [rd8_eq] at h
  simpa using h

/-- A length-prefixed string lies within the view and is at most 255 bytes long. -/
theorem readString_eq_some {view : List Byte} {addr : Nat} {bs : List Byte} (h : readString view addr = some bs) :
    addr + 1 + bs.length ≤ view.length ∧ bs.length ≤ 255 := by
  unfold readString at h
  cases hl : rd8 view addr with
  | none => simp [hl] at h
  | some len =>
    simp only [hl, Option.bind_some] at h
    have hn := memRead_length h
    have hb := (memRead_eq_some.mp h).1
    have := len.isLt
    omega

theorem le16At_eq_some {view : List Byte} {addr : Nat} {w : BitVec 16} (h : le16At view addr = some w) :
    addr + 2 ≤ view.length := by
  unfold le16At at h
  cases hm : memRead view addr 2 with
  | none => simp [hm] at h
  | some bs => exact (memRead_eq_some.mp hm).1

theorem le16At_eq_none {view : List Byte} {addr : Nat} (h : le16At view addr = none) : view.length < addr + 2 := by
  unfold le16At at h
  cases hm : memRead view addr 2 with
  | none => exact memRead_eq_none.mp hm
  | some bs =>
    have hl := memRead_length hm
    match bs, hl with
    | [lo, hi], _ => simp [hm] at h

theorem be_append_one (bs : List Byte) (b : Byte) : be (bs ++ [b]) = be bs * 256 + b.toNat := by
  simp [be]

/-- A big-endian value of `n` bytes is below 256^n. -/
theorem be_lt (bs : List Byte) : be bs < 256 ^ bs.length := by
  induction bs using List.reverseRecOn with
  | nil => simp [be]
  | append_singleton bs b ih =>
    rw [be_append_one, List.length_append, List.length_singleton, Nat.pow_succ]
    have := b.isLt
    omega

theorem ValueSeq.toList_ofList (vs : List Value) : ValueSeq.toList (ValueSeq.ofList vs) = vs := by
  induction vs with
  | nil => rfl
  | cons v vs ih => simp [ValueSeq.ofList, ValueSeq.toList, ih]

end Sys2Proof.Machine
end

