-- ==== Sys2Proof/Laws/Ops.lean ====
section
/-! SUPPORT. What each shared operation over an attempt can do, said once: the fetch, the executing at a position, and the
delivery of decoded elements. -/

namespace Sys2Proof.Machine

/-! ### The flag search -/

theorem findFlag_eq_some {view : List Byte} {c i : Nat} (h : findFlag view c = some i) :
    c ≤ i ∧ i < view.length ∧ view[i]? = some Config.params.flag := by
  unfold findFlag at h
  rw [Option.map_eq_some_iff] at h
  obtain ⟨j, hj, rfl⟩ := h
  rw [List.findIdx?_eq_some_iff_getElem] at hj
  obtain ⟨hlt, hp, _⟩ := hj
  rw [List.length_drop] at hlt
  refine ⟨by omega, by omega, ?_⟩
  rw [List.getElem_drop] at hp
  rw [List.getElem?_eq_getElem (by omega)]
  simpa using hp

theorem findFlag_eq_none {view : List Byte} {c : Nat} (h : findFlag view c = none) :
    ∀ b ∈ view.drop c, b ≠ Config.params.flag := by
  unfold findFlag at h
  rw [Option.map_eq_none_iff, List.findIdx?_eq_none_iff] at h
  intro b hb
  simpa using h b hb

/-! ### Decoding and the position -/

/-- The position a code's bytes stand at. -/
def Code.position? : Code → Option Position
  | .request _ => none
  | .bytes p _ => some p

theorem Code.eq_bytes {code : Code} {p : Position} (h : Code.position? code = some p) : ∃ w, code = .bytes p w := by
  cases code with
  | request r => cases h
  | bytes q w => cases h; exact ⟨w, rfl⟩

theorem decodeAddress_position : ∀ b, Code.position? (encode (decodeAddress b)) = some .address := by
  decide +kernel

theorem decodeDateTime_position : ∀ b, Code.position? (encode (decodeDateTime b)) = some .dateTime := by
  decide +kernel

theorem decodePayload_position : ∀ b, Code.position? (encode (decodePayload b)) = some .payload := by
  decide +kernel

theorem decodePeek_position : ∀ b, Code.position? (encode (decodePeek b)) = some .peek := by
  decide +kernel

theorem decodeValue_position : ∀ b, Code.position? (encode (decodeValue b)) = some .value := by
  decide +kernel

theorem decodeFormat_position {b : Byte} {bs rest : List Byte} {i : Instr}
    (h : decodeFormat b bs = .ok (i, rest)) : ∃ w, encode i = .bytes .format w := by
  unfold decodeFormat at h
  repeat' split at h
  all_goals first
    | (simp only [Except.ok.injEq, Prod.mk.injEq] at h; obtain ⟨rfl, _⟩ := h; exact ⟨_, rfl⟩)
    | simp at h

/-- What decodes at a position is written at that position. -/
theorem decodeAt_position {p : Position} {bs rest : List Byte} {i : Instr} (h : decodeAt p bs = .ok (i, rest)) :
    ∃ w, encode i = .bytes p w := by
  match bs with
  | [] => simp [decodeAt] at h
  | b :: tail =>
    cases p <;> simp only [decodeAt] at h
    case flag =>
      split at h <;> simp at h
      obtain ⟨rfl, _⟩ := h
      exact ⟨_, rfl⟩
    case format => exact decodeFormat_position h
    all_goals
      simp only [Except.ok.injEq, Prod.mk.injEq] at h
      obtain ⟨rfl, _⟩ := h
    case address => exact Code.eq_bytes (decodeAddress_position b)
    case control => exact ⟨_, rfl⟩
    case dateTime => exact Code.eq_bytes (decodeDateTime_position b)
    case payload => exact Code.eq_bytes (decodePayload_position b)
    case peek => exact Code.eq_bytes (decodePeek_position b)
    case value => exact Code.eq_bytes (decodeValue_position b)

/-! ### The fetch -/

/-- A fetch that finds an instruction finds it within the buffer and at the attempt's position, and moves no register but
the flag search's cursor. -/
theorem State.fetch_instr {s : State} {a a' : Attempt} {i : Instr} (h : s.fetch a = .instr i a') :
    a.c ≤ a'.c ∧ a'.c < s.buf.size ∧ a' = { a with c := a'.c } ∧ ∃ w, encode i = .bytes a.phase.position w := by
  unfold State.fetch at h
  split at h
  · rename_i hp
    split at h
    · cases h
    · rename_i j hj
      simp only [Fetched.instr.injEq] at h
      obtain ⟨rfl, rfl⟩ := h
      obtain ⟨h1, h2, _⟩ := findFlag_eq_some hj
      refine ⟨h1, by simpa using h2, rfl, [0x7E#8], ?_⟩
      rw [hp]
      rfl
  · split at h
    · rename_i j rest hj
      simp only [Fetched.instr.injEq] at h
      obtain ⟨rfl, rfl⟩ := h
      refine ⟨Nat.le_refl _, ?_, rfl, decodeAt_position hj⟩
      rw [← Memory.length_bytes]
      by_contra hn
      rw [List.drop_eq_nil_of_le (by omega)] at hj
      simp [decodeAt] at hj
    · cases h

/-! ### Executing at a position -/

section
variable {s : State} {a : Attempt}

theorem State.atFlag_of (h : s.standsAt a (.flag)) (k : Attempt → State) :
    s.atFlag k = .next (k a) := by
  simp [State.atFlag, h.1, h.2]

theorem State.atFormat_of (h : s.standsAt a (.format)) (k : Attempt → State) :
    s.atFormat k = .next (k a) := by
  simp [State.atFormat, h.1, h.2]

theorem State.atControl_of (h : s.standsAt a (.control)) (k : Attempt → State) :
    s.atControl k = .next (k a) := by
  simp [State.atControl, h.1, h.2]

theorem State.atPayload_of (h : s.standsAt a (.payload)) (k : Attempt → State) :
    s.atPayload k = .next (k a) := by
  simp [State.atPayload, h.1, h.2]

theorem State.atDateTime_of {i : Nat} (h : s.standsAt a (.dateTime i)) (k : Attempt → Nat → State) :
    s.atDateTime k = .next (k a i) := by
  simp [State.atDateTime, h.1, h.2]

theorem State.atPeek_of {more : Nat} (h : s.standsAt a (.peek more)) (k : Attempt → Nat → State) :
    s.atPeek k = .next (k a more) := by
  simp [State.atPeek, h.1, h.2]

theorem State.atValue_of {kv : Keyed} {calls : List SeqFrame} (h : s.standsAt a (.value kv calls)) (k : Attempt → Keyed → List SeqFrame → State) :
    s.atValue k = .next (k a kv calls) := by
  simp [State.atValue, h.1, h.2]

theorem State.atAddress_client {n : Nat} (h : s.standsAt a (.client n)) (c v : Attempt → Nat → State) :
    s.atAddress c v = .next (c a n) := by
  simp [State.atAddress, h.1, h.2]

theorem State.atAddress_server {n : Nat} (h : s.standsAt a (.server n)) (c v : Attempt → Nat → State) :
    s.atAddress c v = .next (v a n) := by
  simp [State.atAddress, h.1, h.2]

end

/-! ### Delivery -/

/-- A mapping returned to its callers either decodes the frame, at the cursor, or goes on with another payload element. -/
theorem State.deliverPayload_cases (s : State) (a : Attempt) (p : Payload) (ms : List MergeFrame) :
    (∃ q, s.deliverPayload a p ms = s.publish a q) ∨
      ∃ m rest, s.deliverPayload a p ms = s.resume { a with phase := .payload, merges := m :: rest } := by
  induction ms generalizing p with
  | nil => exact .inl ⟨p, rfl⟩
  | cons m ms ih =>
    unfold State.deliverPayload
    split
    · exact ih _
    · exact .inr ⟨_, _, rfl⟩

/-- A value returned to its callers either decodes the frame, or goes on with another element, at the same cursor. -/
theorem State.deliverValue_cases (s : State) (a : Attempt) (kv : Keyed) (v : Value) (fs : List SeqFrame) :
    (∃ q, s.deliverValue a kv v fs = s.publish a q) ∨
      ∃ ph ms, (ph = .payload ∨ ∃ kv' fs', ph = .value kv' fs') ∧
        s.deliverValue a kv v fs = s.resume { a with phase := ph, merges := ms } := by
  induction fs generalizing v with
  | nil =>
    unfold State.deliverValue
    split
    · rcases s.deliverPayload_cases a (keyedPayload kv.key (kv.vals ++ [v])) a.merges with ⟨q, h⟩ | ⟨m, rest, h⟩
      · exact .inl ⟨q, h⟩
      · exact .inr ⟨_, _, .inl rfl, h⟩
    · exact .inr ⟨_, a.merges, .inr ⟨_, _, rfl⟩, rfl⟩
  | cons f fs ih =>
    unfold State.deliverValue
    split
    · exact ih _
    · exact .inr ⟨_, a.merges, .inr ⟨_, _, rfl⟩, rfl⟩

/-- A keyed composite that begins either decodes the frame, or goes on with another element, at the same cursor. -/
theorem State.beginKeyed_cases (s : State) (a : Attempt) (key : Text) (count : Nat) :
    (∃ q, s.beginKeyed a key count = s.publish a q) ∨
      ∃ ph ms, (ph = .payload ∨ ∃ kv' fs', ph = .value kv' fs') ∧
        s.beginKeyed a key count = s.resume { a with phase := ph, merges := ms } := by
  unfold State.beginKeyed
  split
  · rcases s.deliverPayload_cases a (keyedPayload key []) a.merges with ⟨q, h⟩ | ⟨m, rest, h⟩
    · exact .inl ⟨q, h⟩
    · exact .inr ⟨_, _, .inl rfl, h⟩
  · exact .inr ⟨_, a.merges, .inr ⟨_, _, rfl⟩, rfl⟩

end Sys2Proof.Machine
end

