-- ==== Sys2Proof/Laws/Rows.lean ====
section
/-! SUPPORT. What a byte row can do, said once for all 89 of them (60_exceptions.md R500, R504): the attempt goes on with
its cursor further on, or it ends with one of the outcomes. -/

namespace Sys2Proof.Machine

/-- Whether an attempt stands at a peek, the one step that reads without moving the cursor (R302). -/
def Phase.isPeek : Phase → Bool
  | .peek _ => true
  | _ => false

/-- From `a` to `b` the cursor moves forward, or a peek is left at the same cursor (R52). -/
def Attempt.forward (a b : Attempt) : Prop :=
  a.c < b.c ∨ (a.c = b.c ∧ a.phase.isPeek = true ∧ b.phase.isPeek = false)

/-- The effects a byte row can have in a state where the attempt `a` stands. -/
inductive RowEffect (s : State) (a : Attempt) : State → Prop where
  | goesOn (b : Attempt) (h : a.forward b) : RowEffect s a (s.resume b)
  | insufficient (oc : ParseOutcome) (h : oc.insufficient = true) : RowEffect s a (s.endInsufficient oc)
  | resync (oc : ParseOutcome) (h : oc.resync = true) : RowEffect s a (s.endResync a oc)
  | failed (cf : Nat) : RowEffect s a (s.raiseFail cf)
  | outOfBounds : RowEffect s a s.raiseOob
  | published (b : Attempt) (p : Payload) (h : a.c ≤ b.c) : RowEffect s a (s.publish b p)

/-- The cursor moves on. -/
theorem RowEffect.advance {s : State} {a b : Attempt} (h : a.c < b.c) : RowEffect s a (s.resume b) := .goesOn b (.inl h)

/-- A row answers an effect: it never faults and is never refused. -/
def Answers (s : State) (a : Attempt) (o : Host.Outcome State Fault Refusal) : Prop :=
  ∃ t, o = .next t ∧ RowEffect s a t

variable {s : State} {a : Attempt}

theorem RowEffect.deliverPayload {b : Attempt} (h : a.c < b.c) (p : Payload) (ms : List MergeFrame) :
    RowEffect s a (s.deliverPayload b p ms) := by
  rcases s.deliverPayload_cases b p ms with ⟨q, e⟩ | ⟨m, rest, e⟩ <;> rw [e]
  · exact .published b q (Nat.le_of_lt h)
  · exact .goesOn _ (.inl h)

theorem RowEffect.deliverValue {b : Attempt} (h : a.c < b.c) (kv : Keyed) (v : Value) (fs : List SeqFrame) :
    RowEffect s a (s.deliverValue b kv v fs) := by
  rcases s.deliverValue_cases b kv v fs with ⟨q, e⟩ | ⟨ph, ms, _, e⟩ <;> rw [e]
  · exact .published b q (Nat.le_of_lt h)
  · exact .goesOn _ (.inl h)

theorem RowEffect.beginKeyed {b : Attempt} (h : a.c ≤ b.c) (hp : a.phase.isPeek = true) (key : Text) (count : Nat) :
    RowEffect s a (s.beginKeyed b key count) := by
  rcases s.beginKeyed_cases b key count with ⟨q, e⟩ | ⟨ph, ms, hph, e⟩ <;> rw [e]
  · exact .published b q h
  · refine .goesOn _ ?_
    rcases Nat.lt_or_eq_of_le h with h | h
    · exact .inl h
    · refine .inr ⟨h, hp, ?_⟩
      rcases hph with rfl | ⟨_, _, rfl⟩ <;> rfl

/-! ### The step behind a position -/

theorem standsAt_flag (ha : s.attempt = some a) (hp : a.phase.position = .flag) : s.standsAt a .flag := by
  refine ⟨ha, ?_⟩
  cases h : a.phase <;> simp [h, Phase.position] at hp ⊢

theorem standsAt_format (ha : s.attempt = some a) (hp : a.phase.position = .format) : s.standsAt a .format := by
  refine ⟨ha, ?_⟩
  cases h : a.phase <;> simp [h, Phase.position] at hp ⊢

theorem standsAt_address (ha : s.attempt = some a) (hp : a.phase.position = .address) :
    ∃ n, s.standsAt a (.client n) ∨ s.standsAt a (.server n) := by
  cases h : a.phase <;> simp [h, Phase.position] at hp
  · exact ⟨_, .inl ⟨ha, h⟩⟩
  · exact ⟨_, .inr ⟨ha, h⟩⟩

theorem standsAt_control (ha : s.attempt = some a) (hp : a.phase.position = .control) : s.standsAt a .control := by
  refine ⟨ha, ?_⟩
  cases h : a.phase <;> simp [h, Phase.position] at hp ⊢

theorem standsAt_dateTime (ha : s.attempt = some a) (hp : a.phase.position = .dateTime) :
    ∃ i, s.standsAt a (.dateTime i) := by
  cases h : a.phase <;> simp [h, Phase.position] at hp
  exact ⟨_, ha, h⟩

theorem standsAt_payload (ha : s.attempt = some a) (hp : a.phase.position = .payload) : s.standsAt a .payload := by
  refine ⟨ha, ?_⟩
  cases h : a.phase <;> simp [h, Phase.position] at hp ⊢

theorem standsAt_peek (ha : s.attempt = some a) (hp : a.phase.position = .peek) :
    ∃ more, s.standsAt a (.peek more) := by
  cases h : a.phase <;> simp [h, Phase.position] at hp
  exact ⟨_, ha, h⟩

theorem standsAt_value (ha : s.attempt = some a) (hp : a.phase.position = .value) :
    ∃ kv calls, s.standsAt a (.value kv calls) := by
  cases h : a.phase <;> simp [h, Phase.position] at hp
  exact ⟨_, _, ha, h⟩

/-! ### The frame synchronizer's rows -/

theorem execFlag_answers (ha : s.attempt = some a) (hp : a.phase.position = .flag) : Answers s a (execFlag s) := by
  unfold execFlag
  have h := standsAt_flag ha hp
  rw [State.atFlag_of h]
  refine ⟨_, rfl, ?_⟩
  dsimp only
  split
  · exact .insufficient _ rfl
  · refine .advance ?_
    show a.c < a.c + 1 + _
    omega

theorem setFormat_effect (fmt : Nat) (seg : Bool) (dlen : Nat) {width : Nat} (hw : 0 < width) :
    RowEffect s a (s.setFormat a fmt seg dlen width) := by
  unfold State.setFormat
  split
  · refine .advance ?_
    show a.c < a.c + width
    omega
  · exact .insufficient _ rfl

theorem execFmtShort_answers (ha : s.attempt = some a) (hp : a.phase.position = .format) (len : BitVec 7) :
    Answers s a (execFmtShort len s) := by
  unfold execFmtShort
  have h := standsAt_format ha hp
  rw [State.atFormat_of h]
  exact ⟨_, rfl, setFormat_effect _ _ _ (by omega)⟩

theorem setExtFormat_answers (ha : s.attempt = some a) (hp : a.phase.position = .format) (cls : Nat) (seg : Bool)
    (len : Nat) : Answers s a (s.setExtFormat cls seg len) := by
  unfold State.setExtFormat
  have h := standsAt_format ha hp
  rw [State.atFormat_of h]
  exact ⟨_, rfl, setFormat_effect _ _ _ (by omega)⟩

theorem unsupportedFormat_answers (ha : s.attempt = some a) (hp : a.phase.position = .format) :
    Answers s a s.unsupportedFormat := by
  unfold State.unsupportedFormat
  have h := standsAt_format ha hp
  rw [State.atFormat_of h]
  exact ⟨_, rfl, .resync _ rfl⟩

theorem addressStep_answers (ha : s.attempt = some a) (hp : a.phase.position = .address) (b : Byte) (last : Bool) :
    Answers s a (s.addressStep b last) := by
  unfold State.addressStep
  obtain ⟨n, h | h⟩ := standsAt_address ha hp
  · rw [State.atAddress_client h]
    refine ⟨_, rfl, ?_⟩
    dsimp only
    split <;> exact .advance (Nat.lt_succ_self a.c)
  · rw [State.atAddress_server h]
    refine ⟨_, rfl, ?_⟩
    dsimp only
    split <;> exact .advance (Nat.lt_succ_self a.c)

theorem checkFrameCrc_effect {b : Attempt} (hs : b.startOff = a.startOff) (hc : a.c < b.c) :
    RowEffect s a (s.checkFrameCrc b) := by
  have e : ∀ oc, s.endResync b oc = s.endResync a oc := by
    intro oc
    simp only [State.endResync, hs]
  unfold State.checkFrameCrc
  dsimp only
  split
  · rw [e]
    exact .resync _ rfl
  · split
    · exact .outOfBounds
    · split
      · refine .advance ?_
        show a.c < b.c + 2 + _ + _ + _
        omega
      · rw [e]
        exact .resync _ rfl

theorem execCtrl_answers (ha : s.attempt = some a) (hp : a.phase.position = .control) (b : Byte) :
    Answers s a (execCtrl b s) := by
  unfold execCtrl
  have h := standsAt_control ha hp
  rw [State.atControl_of h]
  refine ⟨_, rfl, ?_⟩
  unfold State.checkHeaderCrc
  dsimp only
  split
  · exact .outOfBounds
  · split
    · exact checkFrameCrc_effect rfl (Nat.lt_succ_self a.c)
    · exact .resync _ rfl

theorem dateTimeField_effect (len : Nat) : RowEffect s a (s.dateTimeField a len) := by
  unfold State.dateTimeField
  split
  · exact .outOfBounds
  · refine .advance ?_
    show a.c < a.c + 1 + len
    omega

theorem dateTimeMarker_answers (ha : s.attempt = some a) (hp : a.phase.position = .dateTime) (len : Nat) :
    Answers s a (s.atDateTime fun a _ => s.dateTimeField a len) := by
  obtain ⟨i, h⟩ := standsAt_dateTime ha hp
  rw [State.atDateTime_of h]
  exact ⟨_, rfl, dateTimeField_effect len⟩

theorem dateTimeSkip_answers (ha : s.attempt = some a) (hp : a.phase.position = .dateTime) (b : Byte) :
    Answers s a (s.dateTimeSkip b) := by
  unfold State.dateTimeSkip
  obtain ⟨i, h⟩ := standsAt_dateTime ha hp
  rw [State.atDateTime_of h]
  refine ⟨_, rfl, ?_⟩
  split
  · exact .advance (Nat.lt_succ_self a.c)
  · exact dateTimeField_effect _

/-! ### The Payload Decoder's rows -/

theorem execPdNull_answers (ha : s.attempt = some a) (hp : a.phase.position = .payload) :
    Answers s a (execPdNull s) := by
  unfold execPdNull
  have h := standsAt_payload ha hp
  rw [State.atPayload_of h]
  exact ⟨_, rfl, .deliverPayload (Nat.lt_succ_self a.c) _ _⟩

theorem payloadComposite_answers (ha : s.attempt = some a) (hp : a.phase.position = .payload) :
    Answers s a s.payloadComposite := by
  unfold State.payloadComposite
  have h := standsAt_payload ha hp
  rw [State.atPayload_of h]
  refine ⟨_, rfl, ?_⟩
  have hc : a.c < a.c + 2 := by omega
  split
  · exact .outOfBounds
  · split
    · exact .deliverPayload hc _ _
    · exact .advance hc

theorem payloadFail_answers (ha : s.attempt = some a) (hp : a.phase.position = .payload) :
    Answers s a s.payloadFail := by
  unfold State.payloadFail
  have h := standsAt_payload ha hp
  rw [State.atPayload_of h]
  exact ⟨_, rfl, .failed _⟩

theorem payloadMerge_answers (ha : s.attempt = some a) (hp : a.phase.position = .peek) :
    Answers s a s.payloadMerge := by
  unfold State.payloadMerge
  obtain ⟨more, h⟩ := standsAt_peek ha hp
  rw [State.atPeek_of h]
  exact ⟨_, rfl, .goesOn _ (.inr ⟨rfl, by rw [h.2]; rfl, rfl⟩)⟩

theorem payloadStringKey_answers (ha : s.attempt = some a) (hp : a.phase.position = .peek)
    (keyOf : List Byte → Text) : Answers s a (s.payloadStringKey keyOf) := by
  unfold State.payloadStringKey
  obtain ⟨more, h⟩ := standsAt_peek ha hp
  rw [State.atPeek_of h]
  refine ⟨_, rfl, ?_⟩
  split
  · exact .outOfBounds
  · refine .beginKeyed ?_ (by rw [h.2]; rfl) _ _
    show a.c ≤ a.c + 2 + _
    omega

theorem payloadDefaultKey_answers (ha : s.attempt = some a) (hp : a.phase.position = .peek) :
    Answers s a s.payloadDefaultKey := by
  unfold State.payloadDefaultKey
  obtain ⟨more, h⟩ := standsAt_peek ha hp
  rw [State.atPeek_of h]
  exact ⟨_, rfl, .beginKeyed (Nat.le_refl _) (by rw [h.2]; rfl) _ _⟩

/-! ### The Value Decoder's rows -/

theorem execVd0_answers (ha : s.attempt = some a) (hp : a.phase.position = .value) : Answers s a (execVd0 s) := by
  unfold execVd0
  obtain ⟨kv, calls, h⟩ := standsAt_value ha hp
  rw [State.atValue_of h]
  exact ⟨_, rfl, .deliverValue (Nat.lt_succ_self a.c) _ _ _⟩

theorem valueOfBytes_answers (ha : s.attempt = some a) (hp : a.phase.position = .value) (n : Nat)
    (mk : List Byte → Value) : Answers s a (s.valueOfBytes n mk) := by
  unfold State.valueOfBytes
  obtain ⟨kv, calls, h⟩ := standsAt_value ha hp
  rw [State.atValue_of h]
  refine ⟨_, rfl, ?_⟩
  split
  · exact .outOfBounds
  · refine .deliverValue ?_ _ _ _
    show a.c < a.c + 1 + n
    omega

theorem valueOfByte_answers (ha : s.attempt = some a) (hp : a.phase.position = .value) (mk : Byte → Value) :
    Answers s a (s.valueOfByte mk) := by
  unfold State.valueOfByte
  obtain ⟨kv, calls, h⟩ := standsAt_value ha hp
  rw [State.atValue_of h]
  refine ⟨_, rfl, ?_⟩
  split
  · exact .outOfBounds
  · refine .deliverValue ?_ _ _ _
    show a.c < a.c + 2
    omega

theorem valueString_answers (ha : s.attempt = some a) (hp : a.phase.position = .value) (mk : List Byte → Value) :
    Answers s a (s.valueString mk) := by
  unfold State.valueString
  obtain ⟨kv, calls, h⟩ := standsAt_value ha hp
  rw [State.atValue_of h]
  refine ⟨_, rfl, ?_⟩
  split
  · exact .outOfBounds
  · refine .deliverValue ?_ _ _ _
    show a.c < a.c + 2 + _
    omega

theorem valueComposite_answers (ha : s.attempt = some a) (hp : a.phase.position = .value) :
    Answers s a s.valueComposite := by
  unfold State.valueComposite
  obtain ⟨kv, calls, h⟩ := standsAt_value ha hp
  rw [State.atValue_of h]
  refine ⟨_, rfl, ?_⟩
  have hc : a.c < a.c + 2 := by omega
  split
  · exact .outOfBounds
  · split
    · exact .deliverValue hc _ _ _
    · exact .advance hc

theorem valueFail_answers (ha : s.attempt = some a) (hp : a.phase.position = .value) : Answers s a s.valueFail := by
  unfold State.valueFail
  obtain ⟨kv, calls, h⟩ := standsAt_value ha hp
  rw [State.atValue_of h]
  exact ⟨_, rfl, .failed _⟩

/-! ### All rows -/

/-- A byte row executed where its position stands answers one of the effects: it never faults and is never refused. -/
theorem execByteRow_answers {i : Instr} {w : List Byte} (ha : s.attempt = some a)
    (he : encode i = .bytes a.phase.position w) : Answers s a (execByteRow i s) := by
  cases i <;> simp only [encode, Code.bytes.injEq, reduceCtorEq] at he <;> have hp := he.1.symm
  all_goals first
    | exact execFlag_answers ha hp
    | exact execFmtShort_answers ha hp _
    | exact setExtFormat_answers ha hp _ _ _
    | exact unsupportedFormat_answers ha hp
    | exact addressStep_answers ha hp _ _
    | exact execCtrl_answers ha hp _
    | exact dateTimeMarker_answers ha hp _
    | exact dateTimeSkip_answers ha hp _
    | exact execPdNull_answers ha hp
    | exact payloadComposite_answers ha hp
    | exact payloadFail_answers ha hp
    | exact payloadMerge_answers ha hp
    | exact payloadStringKey_answers ha hp _
    | exact payloadDefaultKey_answers ha hp
    | exact execVd0_answers ha hp
    | exact valueComposite_answers ha hp
    | exact valueOfByte_answers ha hp _
    | exact valueOfBytes_answers ha hp _ _
    | exact valueFail_answers ha hp
    | exact valueString_answers ha hp _

/-- `exec` gives every byte row the meaning an attempt runs it with. -/
theorem exec_eq_execByteRow {i : Instr} (h : i.isByteRow = true) (s : State) : exec i s = execByteRow i s := by
  cases i <;> first | rfl | simp [Instr.isByteRow, Instr.row] at h

/-- A row that is written as bytes is a byte row. -/
theorem isByteRow_of_encode {i : Instr} {p : Position} {w : List Byte} (h : encode i = .bytes p w) :
    i.isByteRow = true := by
  cases i <;> first | rfl | simp [encode] at h

end Sys2Proof.Machine
end

