-- ==== Sys2Proof/Laws/Attempt.lean ====
section
/-! SUPPORT. An attempt runs to its end within its budget (41_frame_sync.md R248), and what its end can be
(60_exceptions.md R500): the inversion that statements about PUSH start from. -/

namespace Sys2Proof.Machine

/-- How far an attempt is from its end: two for each byte at or past the cursor, and one more at a peek. -/
def attemptMeasure (s : State) (a : Attempt) : Nat :=
  2 * (s.buf.size - a.c) + (if a.phase.isPeek then 1 else 0)

/-- The ways an attempt ends, in terms of the state it started in. -/
inductive Ending (s : State) : State → Prop where
  | insufficient (oc : ParseOutcome) (h : oc.insufficient = true) : Ending s (s.endInsufficient oc)
  | resync (oc : ParseOutcome) (a : Attempt) (h : oc.resync = true) : Ending s (s.endResync a oc)
  | failed (cf : Nat) : Ending s (s.raiseFail cf)
  | outOfBounds : Ending s s.raiseOob
  | published (a : Attempt) (p : Payload) : Ending s (s.publish a p)

theorem Ending.attempt_none {s t : State} (h : Ending s t) : t.attempt = none := by
  cases h <;> rfl

/-- An attempt's end does not depend on the registers the state still shows. -/
theorem Ending.of_resume {s t : State} {a : Attempt} (h : Ending (s.resume a) t) : Ending s t := by
  cases h with
  | insufficient oc h => exact .insufficient oc h
  | resync oc a h => exact .resync oc a h
  | failed cf => exact .failed cf
  | outOfBounds => exact .outOfBounds
  | published a p => exact .published a p

/-- A row's effect is an end, or the same state with the attempt further on. -/
theorem RowEffect.ending_or_resume {s t : State} {a : Attempt} (h : RowEffect s a t) :
    Ending s t ∨ ∃ b, t = s.resume b ∧ a.forward b := by
  cases h with
  | goesOn b h => exact .inr ⟨b, rfl, h⟩
  | insufficient oc h => exact .inl (.insufficient oc h)
  | resync oc h => exact .inl (.resync oc a h)
  | failed cf => exact .inl (.failed cf)
  | outOfBounds => exact .inl .outOfBounds
  | published b p _ => exact .inl (.published b p)

theorem attemptMeasure_lt {s : State} {a b : Attempt} (hc : a.c < s.buf.size) (h : a.forward b) :
    attemptMeasure s b < attemptMeasure s a := by
  unfold attemptMeasure
  rcases h with h | ⟨h, ha, hb⟩
  · split <;> split <;> omega
  · rw [ha, hb, ← h]
    simp

/-- One step of an attempt ends it, or moves it forward within the buffer. -/
theorem State.attemptStep_cases {s : State} {a : Attempt} :
    ∃ t, s.attemptStep a = .next t ∧
      (Ending s t ∨ ∃ b, t = s.resume b ∧ attemptMeasure s b < attemptMeasure s a) := by
  unfold State.attemptStep
  cases hf : s.fetch a with
  | noFlag => exact ⟨_, rfl, .inl (.insufficient _ rfl)⟩
  | outOfBounds => exact ⟨_, rfl, .inl .outOfBounds⟩
  | instr i a' =>
    obtain ⟨hle, hlt, he, w, hw⟩ := State.fetch_instr hf
    have hphase : a'.phase = a.phase := by rw [he]
    obtain ⟨t, ht, heff⟩ := execByteRow_answers (s := s.resume a') (a := a') (i := i) (w := w) rfl (by rw [hphase]; exact hw)
    refine ⟨t, ht, ?_⟩
    rcases heff.ending_or_resume with h | ⟨b, rfl, h⟩
    · exact .inl h.of_resume
    · refine .inr ⟨b, rfl, ?_⟩
      have h1 : attemptMeasure s b < attemptMeasure s a' := attemptMeasure_lt hlt h
      have h2 : attemptMeasure s a' ≤ attemptMeasure s a := by
        unfold attemptMeasure
        rw [hphase]
        omega
      omega

/-- With enough budget an attempt runs to an end: it neither faults nor is refused. -/
theorem runAttempt_ends {s : State} {a : Attempt} {n : Nat} (ha : s.attempt = some a) (hn : attemptMeasure s a < n) :
    ∃ t, runAttempt n s = .next t ∧ Ending s t := by
  induction n generalizing s a with
  | zero => omega
  | succ n ih =>
    obtain ⟨t, ht, h⟩ := State.attemptStep_cases (s := s) (a := a)
    unfold runAttempt
    simp only [ha, ht]
    rcases h with h | ⟨b, rfl, hb⟩
    · refine ⟨t, ?_, h⟩
      unfold runAttempt
      cases n <;> simp [h.attempt_none]
    · obtain ⟨u, hu, he⟩ := ih (s := s.resume b) (a := b) rfl
        (by have : attemptMeasure (s.resume b) b = attemptMeasure s b := rfl
            omega)
      exact ⟨u, hu, he.of_resume⟩

/-- What PUSH does in an idle block with a chunk within the contract: one attempt over the bytes received, to an end. -/
theorem execPush_ends {s : State} {chunk : List Byte} (hs : s.attempt = none)
    (hc : chunk.length ≤ Config.params.maxChunk) :
    ∃ t, execPush chunk s = .next t ∧ Ending (s.beginPush chunk) t := by
  have hw : chunkWellFormed chunk = true := by simpa [chunkWellFormed] using hc
  obtain ⟨t, ht, he⟩ := runAttempt_ends (s := s.beginPush chunk) (a := Attempt.start)
    (n := attemptBudget (s.beginPush chunk)) rfl (by simp [attemptMeasure, attemptBudget, Attempt.start, Phase.isPeek])
  refine ⟨t, ?_, he⟩
  simp only [execPush, State.whenIdle, hs, hw, if_true]
  exact ht

end Sys2Proof.Machine
end

