-- ==== Sys2Proof/Laws/PerInstr.lean ====
section
/-! SUPPORT. A fact about every instruction as syntax, one lemma per constructor: its first byte carries the bits that its row
of spec/opcode_table.json fixes (30_encoding.md, opening: a row matches a byte b when b & mask = match). -/

namespace Sys2Proof.Laws.RowBits

/-- The first byte of an instruction's encoding matches the instruction's row; a host transaction has a request and no
row of bits. -/
def Statement (i : Instr) : Prop :=
  match encode i, i.row with
  | .request _, none => True
  | .bytes _ (b :: _), some (mask, pat) => b &&& mask = pat
  | _, _ => False

/-- The bits that a row fixes are those of its base byte, whatever the operand in the bits it leaves open. -/
theorem classByte_and {k : Nat} {base mask pat : Byte} (h : base &&& mask = pat)
    (hm : (BitVec.allOnes k).setWidth 8 &&& mask = 0#8) (low : BitVec k) : classByte base low &&& mask = pat := by
  rw [← h]
  apply BitVec.eq_of_getLsbD_eq
  intro i hi
  have hb : ((BitVec.allOnes k).setWidth 8 &&& mask).getLsbD i = false := by rw [hm, BitVec.getLsbD_zero]
  rw [BitVec.getLsbD_and, BitVec.getLsbD_setWidth, BitVec.getLsbD_allOnes] at hb
  rw [classByte, BitVec.getLsbD_and, BitVec.getLsbD_and, BitVec.getLsbD_or, BitVec.getLsbD_setWidth]
  by_cases hk : i < k
  · have hm : mask.getLsbD i = false := by simpa [hi, hk] using hb
    simp [hm]
  · simp [BitVec.getLsbD_of_ge low i (Nat.le_of_not_lt hk)]

theorem push (chunk : List Byte) : Statement (.push chunk) := trivial

theorem readLatest : Statement .readLatest := trivial

theorem reset : Statement .reset := trivial

theorem flag : Statement .flag := by
  show 0x7E#8 &&& 0xFF#8 = 0x7E#8
  decide

theorem fmtShort (len : BitVec 7) : Statement (.fmtShort len) := by
  exact classByte_and (by decide) (by decide) len

theorem fmtExt80BF (cls : BitVec 2) (seg : Bool) (len : BitVec 11) : Statement (.fmtExt80BF cls seg len) := by
  simp only [Statement, encode, Instr.row, extFirstByte]
  generalize len.extractLsb' 8 3 = top
  revert cls seg top
  decide +kernel

theorem fmtExtC0DF (cls : BitVec 1) (seg : Bool) (len : BitVec 11) : Statement (.fmtExtC0DF cls seg len) := by
  simp only [Statement, encode, Instr.row, extFirstByte]
  generalize len.extractLsb' 8 3 = top
  revert cls seg top
  decide +kernel

theorem fmtExtE0EF (seg : Bool) (len : BitVec 11) : Statement (.fmtExtE0EF seg len) := by
  simp only [Statement, encode, Instr.row, extFirstByte]
  generalize len.extractLsb' 8 3 = top
  revert seg top
  decide +kernel

theorem fmtExtF0F0 (len : BitVec 8) : Statement (.fmtExtF0F0 len) := by
  show 0xF0#8 &&& 0xFF#8 = 0xF0#8
  decide

theorem fmtUnsupF1F1 : Statement .fmtUnsupF1F1 := by
  show 0xF1#8 &&& 0xFF#8 = 0xF1#8
  decide

theorem fmtUnsupF2F3 (low : BitVec 1) : Statement (.fmtUnsupF2F3 low) := by
  exact classByte_and (by decide) (by decide) low

theorem fmtUnsupF4F7 (low : BitVec 2) : Statement (.fmtUnsupF4F7 low) := by
  exact classByte_and (by decide) (by decide) low

theorem fmtUnsupF8FF (low : BitVec 3) : Statement (.fmtUnsupF8FF low) := by
  exact classByte_and (by decide) (by decide) low

theorem addrMore (hi : BitVec 7) : Statement (.addrMore hi) := by
  simp only [Statement, encode, Instr.row]
  revert hi
  decide +kernel

theorem addrLast (hi : BitVec 7) : Statement (.addrLast hi) := by
  simp only [Statement, encode, Instr.row]
  revert hi
  decide +kernel

theorem ctrl (b : Byte) : Statement (.ctrl b) := by
  simp [Statement, encode, Instr.row]

theorem dtMarkerEmpty : Statement .dtMarkerEmpty := by
  show 0x00#8 &&& 0xFF#8 = 0x00#8
  decide

theorem dtMarker12 : Statement .dtMarker12 := by
  show 0x0C#8 &&& 0xFF#8 = 0x0C#8
  decide

theorem dtSkip0101 : Statement .dtSkip0101 := by
  show 0x01#8 &&& 0xFF#8 = 0x01#8
  decide

theorem dtSkip0203 (low : BitVec 1) : Statement (.dtSkip0203 low) := by
  exact classByte_and (by decide) (by decide) low

theorem dtSkip0407 (low : BitVec 2) : Statement (.dtSkip0407 low) := by
  exact classByte_and (by decide) (by decide) low

theorem dtSkip080B (low : BitVec 2) : Statement (.dtSkip080B low) := by
  exact classByte_and (by decide) (by decide) low

theorem dtSkip0D0D : Statement .dtSkip0D0D := by
  show 0x0D#8 &&& 0xFF#8 = 0x0D#8
  decide

theorem dtSkip0E0F (low : BitVec 1) : Statement (.dtSkip0E0F low) := by
  exact classByte_and (by decide) (by decide) low

theorem dtSkip101F (low : BitVec 4) : Statement (.dtSkip101F low) := by
  exact classByte_and (by decide) (by decide) low

theorem dtSkip203F (low : BitVec 5) : Statement (.dtSkip203F low) := by
  exact classByte_and (by decide) (by decide) low

theorem dtSkip407F (low : BitVec 6) : Statement (.dtSkip407F low) := by
  exact classByte_and (by decide) (by decide) low

theorem dtSkip80FF (low : BitVec 7) : Statement (.dtSkip80FF low) := by
  exact classByte_and (by decide) (by decide) low

theorem pdNull : Statement .pdNull := by
  show 0x00#8 &&& 0xFF#8 = 0x00#8
  decide

theorem pdArray : Statement .pdArray := by
  show 0x01#8 &&& 0xFF#8 = 0x01#8
  decide

theorem pdStruct : Statement .pdStruct := by
  show 0x02#8 &&& 0xFF#8 = 0x02#8
  decide

theorem pdCompact : Statement .pdCompact := by
  show 0x13#8 &&& 0xFF#8 = 0x13#8
  decide

theorem pdOther0303 : Statement .pdOther0303 := by
  show 0x03#8 &&& 0xFF#8 = 0x03#8
  decide

theorem pdOther0407 (low : BitVec 2) : Statement (.pdOther0407 low) := by
  exact classByte_and (by decide) (by decide) low

theorem pdOther080F (low : BitVec 3) : Statement (.pdOther080F low) := by
  exact classByte_and (by decide) (by decide) low

theorem pdOther1011 (low : BitVec 1) : Statement (.pdOther1011 low) := by
  exact classByte_and (by decide) (by decide) low

theorem pdOther1212 : Statement .pdOther1212 := by
  show 0x12#8 &&& 0xFF#8 = 0x12#8
  decide

theorem pdOther1417 (low : BitVec 2) : Statement (.pdOther1417 low) := by
  exact classByte_and (by decide) (by decide) low

theorem pdOther181F (low : BitVec 3) : Statement (.pdOther181F low) := by
  exact classByte_and (by decide) (by decide) low

theorem pdOther203F (low : BitVec 5) : Statement (.pdOther203F low) := by
  exact classByte_and (by decide) (by decide) low

theorem pdOther407F (low : BitVec 6) : Statement (.pdOther407F low) := by
  exact classByte_and (by decide) (by decide) low

theorem pdOther80FF (low : BitVec 7) : Statement (.pdOther80FF low) := by
  exact classByte_and (by decide) (by decide) low

theorem pdPeekMergeArray : Statement .pdPeekMergeArray := by
  show 0x01#8 &&& 0xFF#8 = 0x01#8
  decide

theorem pdPeekMergeStruct : Statement .pdPeekMergeStruct := by
  show 0x02#8 &&& 0xFF#8 = 0x02#8
  decide

theorem pdPeekMergeCompact : Statement .pdPeekMergeCompact := by
  show 0x13#8 &&& 0xFF#8 = 0x13#8
  decide

theorem pdPeekVisibleKey : Statement .pdPeekVisibleKey := by
  show 0x0A#8 &&& 0xFF#8 = 0x0A#8
  decide

theorem pdPeekObisKey : Statement .pdPeekObisKey := by
  show 0x09#8 &&& 0xFF#8 = 0x09#8
  decide

theorem pdPeekDefaultKey0000 : Statement .pdPeekDefaultKey0000 := by
  show 0x00#8 &&& 0xFF#8 = 0x00#8
  decide

theorem pdPeekDefaultKey0303 : Statement .pdPeekDefaultKey0303 := by
  show 0x03#8 &&& 0xFF#8 = 0x03#8
  decide

theorem pdPeekDefaultKey0407 (low : BitVec 2) : Statement (.pdPeekDefaultKey0407 low) := by
  exact classByte_and (by decide) (by decide) low

theorem pdPeekDefaultKey0808 : Statement .pdPeekDefaultKey0808 := by
  show 0x08#8 &&& 0xFF#8 = 0x08#8
  decide

theorem pdPeekDefaultKey0B0B : Statement .pdPeekDefaultKey0B0B := by
  show 0x0B#8 &&& 0xFF#8 = 0x0B#8
  decide

theorem pdPeekDefaultKey0C0F (low : BitVec 2) : Statement (.pdPeekDefaultKey0C0F low) := by
  exact classByte_and (by decide) (by decide) low

theorem pdPeekDefaultKey1011 (low : BitVec 1) : Statement (.pdPeekDefaultKey1011 low) := by
  exact classByte_and (by decide) (by decide) low

theorem pdPeekDefaultKey1212 : Statement .pdPeekDefaultKey1212 := by
  show 0x12#8 &&& 0xFF#8 = 0x12#8
  decide

theorem pdPeekDefaultKey1417 (low : BitVec 2) : Statement (.pdPeekDefaultKey1417 low) := by
  exact classByte_and (by decide) (by decide) low

theorem pdPeekDefaultKey181F (low : BitVec 3) : Statement (.pdPeekDefaultKey181F low) := by
  exact classByte_and (by decide) (by decide) low

theorem pdPeekDefaultKey203F (low : BitVec 5) : Statement (.pdPeekDefaultKey203F low) := by
  exact classByte_and (by decide) (by decide) low

theorem pdPeekDefaultKey407F (low : BitVec 6) : Statement (.pdPeekDefaultKey407F low) := by
  exact classByte_and (by decide) (by decide) low

theorem pdPeekDefaultKey80FF (low : BitVec 7) : Statement (.pdPeekDefaultKey80FF low) := by
  exact classByte_and (by decide) (by decide) low

theorem vd0 : Statement .vd0 := by
  show 0x00#8 &&& 0xFF#8 = 0x00#8
  decide

theorem vd1 : Statement .vd1 := by
  show 0x01#8 &&& 0xFF#8 = 0x01#8
  decide

theorem vd2 : Statement .vd2 := by
  show 0x02#8 &&& 0xFF#8 = 0x02#8
  decide

theorem vd3 : Statement .vd3 := by
  show 0x03#8 &&& 0xFF#8 = 0x03#8
  decide

theorem vd4 : Statement .vd4 := by
  show 0x04#8 &&& 0xFF#8 = 0x04#8
  decide

theorem vd5 : Statement .vd5 := by
  show 0x05#8 &&& 0xFF#8 = 0x05#8
  decide

theorem vd6 : Statement .vd6 := by
  show 0x06#8 &&& 0xFF#8 = 0x06#8
  decide

theorem vd7 : Statement .vd7 := by
  show 0x07#8 &&& 0xFF#8 = 0x07#8
  decide

theorem vd8 : Statement .vd8 := by
  show 0x08#8 &&& 0xFF#8 = 0x08#8
  decide

theorem vd9 : Statement .vd9 := by
  show 0x09#8 &&& 0xFF#8 = 0x09#8
  decide

theorem vd10 : Statement .vd10 := by
  show 0x0A#8 &&& 0xFF#8 = 0x0A#8
  decide

theorem vd11 : Statement .vd11 := by
  show 0x0B#8 &&& 0xFF#8 = 0x0B#8
  decide

theorem vd12 : Statement .vd12 := by
  show 0x0C#8 &&& 0xFF#8 = 0x0C#8
  decide

theorem vd13 : Statement .vd13 := by
  show 0x0D#8 &&& 0xFF#8 = 0x0D#8
  decide

theorem vd14 : Statement .vd14 := by
  show 0x0E#8 &&& 0xFF#8 = 0x0E#8
  decide

theorem vd15 : Statement .vd15 := by
  show 0x0F#8 &&& 0xFF#8 = 0x0F#8
  decide

theorem vd16 : Statement .vd16 := by
  show 0x10#8 &&& 0xFF#8 = 0x10#8
  decide

theorem vd17 : Statement .vd17 := by
  show 0x11#8 &&& 0xFF#8 = 0x11#8
  decide

theorem vd18 : Statement .vd18 := by
  show 0x12#8 &&& 0xFF#8 = 0x12#8
  decide

theorem vd19 : Statement .vd19 := by
  show 0x13#8 &&& 0xFF#8 = 0x13#8
  decide

theorem vd20 : Statement .vd20 := by
  show 0x14#8 &&& 0xFF#8 = 0x14#8
  decide

theorem vd21 : Statement .vd21 := by
  show 0x15#8 &&& 0xFF#8 = 0x15#8
  decide

theorem vd22 : Statement .vd22 := by
  show 0x16#8 &&& 0xFF#8 = 0x16#8
  decide

theorem vd23 : Statement .vd23 := by
  show 0x17#8 &&& 0xFF#8 = 0x17#8
  decide

theorem vd24 : Statement .vd24 := by
  show 0x18#8 &&& 0xFF#8 = 0x18#8
  decide

theorem vd25 : Statement .vd25 := by
  show 0x19#8 &&& 0xFF#8 = 0x19#8
  decide

theorem vd26 : Statement .vd26 := by
  show 0x1A#8 &&& 0xFF#8 = 0x1A#8
  decide

theorem vd27 : Statement .vd27 := by
  show 0x1B#8 &&& 0xFF#8 = 0x1B#8
  decide

theorem vdOther1C1F (low : BitVec 2) : Statement (.vdOther1C1F low) := by
  exact classByte_and (by decide) (by decide) low

theorem vdOther203F (low : BitVec 5) : Statement (.vdOther203F low) := by
  exact classByte_and (by decide) (by decide) low

theorem vdOther407F (low : BitVec 6) : Statement (.vdOther407F low) := by
  exact classByte_and (by decide) (by decide) low

theorem vdOther80FF (low : BitVec 7) : Statement (.vdOther80FF low) := by
  exact classByte_and (by decide) (by decide) low

end Sys2Proof.Laws.RowBits
end

