-- ==== Sys2Proof/Tests/Slice0.lean ====
section
/-! SUPPORT. Tests of the model against spec/: words written out from 30_encoding.md, the vectors of 95_test_vectors.md on one
step each, and a witness for the hypotheses of every statement that has some. -/

namespace Sys2Proof.Tests

open Sys2Proof.Machine

/-! ### Helpers: a small state, and what to look at in an answer -/

/-- Bytes in BUF with an attempt at a step, its cursor at index 0. -/
def placed (ph : Phase) (bs : List Byte) : State :=
  { State.reset with buf := Memory.ofBytes bs, attempt := some { Attempt.start with phase := ph } }

/-- A value's place: the first of two values under an empty key. -/
def valuePhase : Phase := .value { key := [], left := 1, vals := [] } []

/-- The attempt an answer goes on with. -/
def goesOn : Host.Outcome State Fault Refusal → Option Attempt
  | .next s => s.attempt
  | .fault _ => none
  | .refused _ => none

/-- STATUS and BUF of an answer that ended its attempt. -/
def ended : Host.Outcome State Fault Refusal → Option (Nat × List Byte)
  | .next s => if s.attempt = none then some (s.status.toNat, s.buf.bytes) else none
  | .fault _ => none
  | .refused _ => none

/-- STATUS, BUF and the count of records of an answer. -/
def seen : Host.Outcome State Fault Refusal → Option (Nat × List Byte × Nat)
  | .next s => some (s.status.toNat, s.buf.bytes, s.out.length)
  | .fault _ => none
  | .refused _ => none

/-- The last record of an answer. -/
def lastRecord : Host.Outcome State Fault Refusal → Option Record
  | .next s => s.out.getLast?
  | .fault _ => none
  | .refused _ => none

/-- The reason of a refusal. -/
def refusal : Host.Outcome State Fault Refusal → Option Refusal
  | .next _ => none
  | .fault _ => none
  | .refused r => some r

/-- The value a VD row read and the cursor after it. -/
def readValue (i : Instr) (bs : List Byte) : Option (Nat × List Value) :=
  match goesOn (exec i (placed valuePhase bs)) with
  | some a =>
    match a.phase with
    | .value kv [] => some (a.c, kv.vals)
    | _ => none
  | none => none

/-- The payload and the record's last cursor, seen from what a row publishes. -/
def published (o : Host.Outcome State Fault Refusal) : Option Payload := (lastRecord o).map Record.payload

/-- Bytes that hold no flag. -/
def filler (n : Nat) : List Byte := List.replicate n 0x55#8

theorem length_filler (n : Nat) : (filler n).length = n := List.length_replicate

/-! ### Well-formedness -/

/-- R201: a chunk of MAX_CHUNK bytes is within the contract. -/
theorem test_push_of_2048_bytes_is_well_formed : (Instr.push (filler 2048)).wellFormed = true := by
  simp [Instr.wellFormed, chunkWellFormed, Config.params, length_filler]

/-- R201: one byte more is not. -/
theorem test_push_of_2049_bytes_is_ill_formed : (Instr.push (filler 2049)).wellFormed = false := by
  simp [Instr.wellFormed, chunkWellFormed, Config.params, length_filler]

/-- The same for a waiting request. -/
theorem test_request_of_2049_bytes_is_ill_formed :
    (HostRequest.push (filler 2049)).wellFormed = false := by
  simp [HostRequest.wellFormed, chunkWellFormed, Config.params, length_filler]

/-! ### Decoding: words written out from 30_encoding.md R121-R129 and the opcode table -/

/-- R120: the flag. -/
theorem test_decode_flag :
    decodeAt .flag [0x7E#8] = .ok (.flag, []) ∧ decodeAt .flag [0x7D#8] = .error .notFlag := by decide

/-- R121: the short form, length in bits 6..0. -/
theorem test_decode_short_format :
    decodeAt .format [0x25#8, 0x03#8] = .ok (.fmtShort 37#7, [0x03#8]) ∧
    decodeAt .format [0x7F#8] = .ok (.fmtShort 127#7, []) := by decide

/-- R122: class bits 6..4, segmentation bit 3, length bits 2..0 and the second byte. -/
theorem test_decode_extended_format :
    decodeAt .format [0xA0#8, 0x4C#8] = .ok (.fmtExt80BF 2#2 false 76#11, []) ∧
    decodeAt .format [0x8F#8, 0xFF#8] = .ok (.fmtExt80BF 0#2 true 2047#11, []) ∧
    decodeAt .format [0xD5#8, 0x01#8] = .ok (.fmtExtC0DF 1#1 false 0x501#11, []) ∧
    decodeAt .format [0xEA#8, 0x10#8] = .ok (.fmtExtE0EF true 0x210#11, []) ∧
    decodeAt .format [0xF0#8, 0x13#8] = .ok (.fmtExtF0F0 0x13#8, []) ∧
    decodeAt .format [0xA0#8] = .error .endOfBuffer := by decide

/-- R123: the unsupported bytes. -/
theorem test_decode_unsupported_format :
    decodeAt .format [0xF1#8] = .ok (.fmtUnsupF1F1, []) ∧ decodeAt .format [0xF3#8] = .ok (.fmtUnsupF2F3 1#1, []) ∧
    decodeAt .format [0xF6#8] = .ok (.fmtUnsupF4F7 2#2, []) ∧
    decodeAt .format [0xFD#8] = .ok (.fmtUnsupF8FF 5#3, []) := by decide

/-- R124: bit 0 is the terminator, bits 7..1 the address. -/
theorem test_decode_address :
    [0x08#8, 0x83#8, 0x00#8, 0xFF#8].map decodeAddress =
      [.addrMore 4#7, .addrLast 65#7, .addrMore 0#7, .addrLast 127#7] := by decide

/-- R125: any byte is a control byte. -/
theorem test_decode_control : decodeAt .control [0x93#8] = .ok (.ctrl 0x93#8, []) := by decide

/-- R127: the two markers and the ten classes between and above them. -/
theorem test_decode_date_time :
    [0x00#8, 0x0C#8, 0x01#8, 0x03#8, 0x05#8, 0x09#8, 0x0D#8, 0x0E#8, 0x11#8, 0x3F#8, 0x40#8, 0xFF#8].map
      decodeDateTime =
      [.dtMarkerEmpty, .dtMarker12, .dtSkip0101, .dtSkip0203 1#1, .dtSkip0407 1#2, .dtSkip080B 1#2, .dtSkip0D0D,
       .dtSkip0E0F 0#1, .dtSkip101F 1#4, .dtSkip203F 31#5, .dtSkip407F 0#6, .dtSkip80FF 127#7] := by decide

/-- R129: the top-level tags. -/
theorem test_decode_payload :
    [0x00#8, 0x01#8, 0x02#8, 0x13#8, 0x03#8, 0x06#8, 0x0F#8, 0x11#8, 0x12#8, 0x17#8, 0x1B#8, 0x20#8, 0x41#8,
      0x80#8].map decodePayload =
      [.pdNull, .pdArray, .pdStruct, .pdCompact, .pdOther0303, .pdOther0407 2#2, .pdOther080F 7#3, .pdOther1011 1#1,
       .pdOther1212, .pdOther1417 3#2, .pdOther181F 3#3, .pdOther203F 0#5, .pdOther407F 1#6,
       .pdOther80FF 0#7] := by decide

/-- R302: the peeked tags. -/
theorem test_decode_peek :
    [0x01#8, 0x02#8, 0x13#8, 0x0A#8, 0x09#8, 0x00#8, 0x03#8, 0x05#8, 0x08#8, 0x0B#8].map decodePeek =
      [.pdPeekMergeArray, .pdPeekMergeStruct, .pdPeekMergeCompact, .pdPeekVisibleKey, .pdPeekObisKey,
       .pdPeekDefaultKey0000, .pdPeekDefaultKey0303, .pdPeekDefaultKey0407 1#2, .pdPeekDefaultKey0808,
       .pdPeekDefaultKey0B0B] ∧
    [0x0F#8, 0x10#8, 0x12#8, 0x16#8, 0x1F#8, 0x21#8, 0x7F#8, 0xFE#8].map decodePeek =
      [.pdPeekDefaultKey0C0F 3#2, .pdPeekDefaultKey1011 0#1, .pdPeekDefaultKey1212, .pdPeekDefaultKey1417 2#2,
       .pdPeekDefaultKey181F 7#3, .pdPeekDefaultKey203F 1#5, .pdPeekDefaultKey407F 63#6,
       .pdPeekDefaultKey80FF 126#7] := by decide

/-- R128: tags 0 to 13. -/
theorem test_decode_value_low :
    [0x00#8, 0x01#8, 0x02#8, 0x03#8, 0x04#8, 0x05#8, 0x06#8, 0x07#8, 0x08#8, 0x09#8, 0x0A#8, 0x0B#8, 0x0C#8,
      0x0D#8].map decodeValue =
      [.vd0, .vd1, .vd2, .vd3, .vd4, .vd5, .vd6, .vd7, .vd8, .vd9, .vd10, .vd11, .vd12, .vd13] := by decide

/-- R128: tags 14 to 27, and the rest. -/
theorem test_decode_value_high :
    [0x0E#8, 0x0F#8, 0x10#8, 0x11#8, 0x12#8, 0x13#8, 0x14#8, 0x15#8, 0x16#8, 0x17#8, 0x18#8, 0x19#8, 0x1A#8, 0x1B#8,
      0x1C#8, 0x3F#8, 0x40#8, 0x80#8].map decodeValue =
      [.vd14, .vd15, .vd16, .vd17, .vd18, .vd19, .vd20, .vd21, .vd22, .vd23, .vd24, .vd25, .vd26, .vd27,
       .vdOther1C1F 0#2, .vdOther203F 31#5, .vdOther407F 0#6, .vdOther80FF 0#7] := by decide

/-- R134: a request is the transaction it names. -/
theorem test_decode_requests :
    decode (.request (.push [0x7E#8])) = .ok (.push [0x7E#8], []) ∧ decode (.request .readLatest) = .ok (.readLatest, []) ∧
    decode (.request .reset) = .ok (.reset, []) := by decide

/-- R122, R124: words the encoder must give. -/
theorem test_encode_words :
    encode (.fmtExt80BF 2#2 false 76#11) = .bytes .format [0xA0#8, 0x4C#8] ∧
    encode (.fmtExtC0DF 1#1 true 19#11) = .bytes .format [0xD8#8, 0x13#8] ∧
    encode (.fmtShort 37#7) = .bytes .format [0x25#8] ∧ encode (.addrLast 65#7) = .bytes .address [0x83#8] ∧
    encode (.addrMore 4#7) = .bytes .address [0x08#8] ∧ encode (.dtSkip080B 1#2) = .bytes .dateTime [0x09#8] ∧
    encode (.vdOther80FF 127#7) = .bytes .value [0xFF#8] := by decide

/-- Log 8: the host's table words, with bit 0 the least significant bit of the first byte. -/
theorem test_table_words :
    decodeTableWord 8 0x7E = some .flag ∧ decodeTableWord 8 0x11 = some .vd17 ∧
    decodeTableWord 16 0x4CA0 = some (.fmtExt80BF 2#2 false 76#11) ∧
    decodeTableWord 8 0xF1 = some .fmtUnsupF1F1 := by decide

/-- Log 8: the very next step runs the placed word. -/
theorem test_placed_word_runs :
    published (step (State.reset.withFetchWord 8 0x03)) =
      some [{ key := Config.params.defaultKey, vals := [.bool false] }] := by decide

/-! ### The frame synchronizer, one row each (95_test_vectors.md 2.2 and the rules' own examples) -/

/-- T-F2: `7E 7E 7E` has S = 3 = L. -/
theorem test_flag_short :
    ended (exec .flag (placed .flag [0x7E#8, 0x7E#8, 0x7E#8])) = some (3, [0x7E#8, 0x7E#8, 0x7E#8]) := by decide

/-- R231, R233: two flags and 14 bytes, S = 2. -/
theorem test_flag_goes_on :
    (goesOn (exec .flag (placed .flag (0x7E#8 :: 0x7E#8 :: List.replicate 14 0x00#8)))).map
      (fun a => (a.fi, a.startOff, a.c, a.phase)) = some (0, 2, 2, .format) := by decide

/-- R234: `25` gives FMT 0, SEG false, DLEN 37; complete in 38 bytes from S, and not in 37 (R235). -/
theorem test_fmt_short :
    (goesOn (exec (.fmtShort 37#7) (placed .format (List.replicate 38 0x25#8)))).map
      (fun a => (a.fmt, a.seg, a.dlen, a.c)) = some (0, false, 37, 1) ∧
    (ended (exec (.fmtShort 37#7) (placed .format (List.replicate 37 0x25#8)))).map Prod.fst = some 4 := by decide

/-- R234: `88 13` gives FMT 1, SEG true, DLEN 19. -/
theorem test_fmt_ext_80_bf :
    (goesOn (exec (.fmtExt80BF 0#2 true 19#11) (placed .format (List.replicate 20 0x00#8)))).map
      (fun a => (a.fmt, a.seg, a.dlen, a.c)) = some (1, true, 19, 2) := by decide

/-- R234: `D8 13` gives FMT 1 + 5. -/
theorem test_fmt_ext_c0_df :
    (goesOn (exec (.fmtExtC0DF 1#1 true 19#11) (placed .format (List.replicate 20 0x00#8)))).map
      (fun a => (a.fmt, a.seg, a.dlen, a.c)) = some (6, true, 19, 2) := by decide

/-- R234: `E0 13` gives FMT 1 + 6. -/
theorem test_fmt_ext_e0_ef :
    (goesOn (exec (.fmtExtE0EF false 19#11) (placed .format (List.replicate 20 0x00#8)))).map
      (fun a => (a.fmt, a.seg, a.dlen, a.c)) = some (7, false, 19, 2) := by decide

/-- R234, T-F4: `F0 13` gives FMT 8 and is parsed normally. -/
theorem test_fmt_ext_f0 :
    (goesOn (exec (.fmtExtF0F0 0x13#8) (placed .format (List.replicate 20 0x00#8)))).map
      (fun a => (a.fmt, a.seg, a.dlen, a.c)) = some (8, false, 19, 2) := by decide

/-- R234, R241, T-F5: FORMAT_UNSUPPORTED cuts BUF to start at S. -/
theorem test_fmt_unsupported :
    [Instr.fmtUnsupF1F1, .fmtUnsupF2F3 0#1, .fmtUnsupF4F7 3#2, .fmtUnsupF8FF 7#3].map (fun i =>
      ended (exec i { State.reset with
        buf := Memory.ofBytes [0x55#8, 0x7E#8, 0xF1#8, 0x00#8]
        attempt := some { Attempt.start with startOff := 2, c := 2, phase := .format } })) =
      List.replicate 4 (some (7, [0xF1#8, 0x00#8])) := by decide

/-- R236: `41` alone is 65, and the terminator bit stays in the value. -/
theorem test_addr_last :
    (goesOn (exec (.addrLast 0x20#7) (placed (.client 0) [0x41#8]))).map (fun a => (a.addrC, a.c, a.phase)) =
      some (65#32, 1, .server 0) := by decide

/-- R236: the fourth byte ends an address although its bit 0 is clear, and one before it does not. -/
theorem test_addr_more :
    (goesOn (exec (.addrMore 4#7) { State.reset with
      buf := Memory.ofBytes [0x08#8]
      attempt := some { Attempt.start with addrS := 0x020406#32, phase := .server 3 } })).map
      (fun a => (a.addrS, a.phase)) = some (0x02040608#32, .control) ∧
    (goesOn (exec (.addrMore 4#7) (placed (.server 2) [0x08#8]))).map (fun a => (a.addrS, a.phase)) =
      some (0x08#32, .server 3) := by decide

/-- The attempt of T-F17 at its control byte: S = 1, DLEN = 9. -/
def ctrlState (h0 f0 : Byte) (dlen : Int) : State :=
  { State.reset with
    buf := Memory.ofBytes [0x7E#8, 0xA0#8, 0x09#8, 0x41#8, 0x03#8, 0x13#8, h0, 0x88#8, f0, 0x0F#8, 0x7E#8]
    attempt := some { Attempt.start with startOff := 1, c := 5, dlen := dlen, phase := .control } }

/-- T-F17, R237, R242: both CRCs match, and the skips take C to 16. -/
theorem test_ctrl_passes :
    (goesOn (exec (.ctrl 0x13#8) (ctrlState 0x08#8 0x47#8 9))).map (fun a => (a.ctrl, a.hcs, a.fcs, a.c)) =
      some (0x13#8, 0x8808#16, 0x0F47#16, 16) := by decide +kernel

/-- R238, R239: a wrong HCS byte, a wrong FCS byte, a DLEN below 2. -/
theorem test_ctrl_mismatches :
    (ended (exec (.ctrl 0x13#8) (ctrlState 0x09#8 0x47#8 9))).map (fun e => (e.1, e.2.length)) = some (5, 10) ∧
    (ended (exec (.ctrl 0x13#8) (ctrlState 0x08#8 0x46#8 9))).map (fun e => (e.1, e.2.length)) = some (6, 10) ∧
    (ended (exec (.ctrl 0x13#8) (ctrlState 0x08#8 0x47#8 1))).map (fun e => (e.1, e.2.length)) = some (6, 10) := by
  decide +kernel

/-- R243: marker `00` gives an empty field. -/
theorem test_dt_marker_empty :
    (goesOn (exec .dtMarkerEmpty (placed (.dateTime 0) [0x00#8, 0x01#8]))).map (fun a => (a.dt, a.c, a.phase)) =
      some ([], 1, .payload) := by decide

/-- R243: marker `0C` takes 12 bytes, and 11 are not enough. -/
theorem test_dt_marker_12 :
    (goesOn (exec .dtMarker12 (placed (.dateTime 3) (0x0C#8 :: List.replicate 12 0xE7#8)))).map
      (fun a => (a.dt, a.c, a.phase)) = some (List.replicate 12 0xE7#8, 13, .payload) ∧
    ended (exec .dtMarker12 (placed (.dateTime 3) (0x0C#8 :: List.replicate 11 0xE7#8))) = some (9, []) := by decide

/-- R243: each class of byte is skipped within the first 12. -/
theorem test_dt_skip :
    [Instr.dtSkip0101, .dtSkip0203 0#1, .dtSkip0407 0#2, .dtSkip080B 1#2, .dtSkip0D0D, .dtSkip0E0F 0#1, .dtSkip101F 1#4,
      .dtSkip203F 0#5, .dtSkip407F 0#6, .dtSkip80FF 0#7].map (fun i =>
      (goesOn (exec i (placed (.dateTime 11) [0x11#8]))).map (fun a => (a.c, a.phase))) =
      List.replicate 10 (some (1, .dateTime 12)) := by decide

/-- T-F13: after 12 bytes without a marker, `01` is a length. -/
theorem test_dt_scan_ran_out :
    (goesOn (exec .dtSkip0101 (placed (.dateTime 12) [0x01#8, 0xAB#8]))).map (fun a => (a.dt, a.c)) =
      some ([0xAB#8], 2) ∧
    ended (exec (.dtSkip0203 1#1) (placed (.dateTime 12) [0x03#8, 0xAB#8])) = some (9, []) := by decide

/-! ### The Payload Decoder, one row each (95_test_vectors.md 2.4) -/

/-- T-P1: `00` is the empty mapping, a success. -/
theorem test_pd_null : published (exec .pdNull (placed .payload [0x00#8])) = some [] := by decide

/-- T-P5, T-P6: an empty composite is the empty mapping, without a peek. -/
theorem test_pd_empty_composite :
    published (exec .pdArray (placed .payload [0x01#8, 0x00#8])) = some [] ∧
    published (exec .pdStruct (placed .payload [0x02#8, 0x00#8])) = some [] := by decide

/-- R302: a count leads to the peek, and a missing count is out of bounds. -/
theorem test_pd_composite :
    (goesOn (exec .pdStruct (placed .payload [0x02#8, 0x03#8]))).map (fun a => (a.c, a.phase)) = some (2, .peek 2) ∧
    ended (exec .pdArray (placed .payload [0x01#8])) = some (9, []) := by decide

/-- T-P2: `13` fails at cursor 1, so three bytes past it are dropped. -/
theorem test_pd_compact :
    ended (exec .pdCompact (placed .payload [0x13#8, 0x01#8, 0x02#8, 0x03#8, 0x04#8])) = some (8, [0x04#8]) := by decide

/-- T-P3, T-P4: every other tag fails at cursor 1. -/
theorem test_pd_other :
    [Instr.pdOther0303, .pdOther0407 1#2, .pdOther080F 0#3, .pdOther1011 1#1, .pdOther1212, .pdOther1417 0#2,
      .pdOther181F 0#3, .pdOther203F 0#5, .pdOther407F 0#6, .pdOther80FF 0#7].map (fun i =>
      ended (exec i (placed .payload [0x03#8, 0x01#8, 0x02#8, 0x03#8, 0x04#8]))) =
      List.replicate 10 (some (8, [0x04#8])) := by decide

/-- R303: the merge branch reads the first element again, as a payload. -/
theorem test_pd_peek_merge :
    [Instr.pdPeekMergeArray, .pdPeekMergeStruct, .pdPeekMergeCompact].map (fun i =>
      (goesOn (exec i (placed (.peek 1) [0x02#8]))).map (fun a => (a.c, a.phase, a.merges))) =
      List.replicate 3 (some (0, .payload, [{ left := 1, entries := [] }])) := by decide

/-- T-P7: the key is "AB", and one value follows. -/
theorem test_pd_peek_visible_key :
    (goesOn (exec .pdPeekVisibleKey (placed (.peek 1) [0x0A#8, 0x02#8, 0x41#8, 0x42#8]))).map
      (fun a => (a.c, a.phase)) = some (4, .value { key := [0x41#8, 0x42#8], left := 0, vals := [] } []) := by decide

/-- T-P18: the key is an OBIS code and no value follows: the entry is empty. -/
theorem test_pd_peek_obis_key :
    published (exec .pdPeekObisKey (placed (.peek 0)
      [0x09#8, 0x06#8, 0x01#8, 0x00#8, 0x01#8, 0x08#8, 0x00#8, 0xFF#8])) =
      some [{ key := ascii ['1', '-', '0', ':', '1', '.', '8', '.', '0', '.', '2', '5', '5'], vals := [] }] := by decide

/-- T-P24: a key whose length byte is missing. -/
theorem test_pd_peek_key_out_of_bounds :
    ended (exec .pdPeekObisKey (placed (.peek 1) [0x09#8])) = some (9, []) ∧
    ended (exec .pdPeekVisibleKey (placed (.peek 1) [0x0A#8, 0x01#8])) = some (9, []) := by decide

/-- T-P9, T-P14: under the default key every element is a value, and nothing is consumed. -/
theorem test_pd_peek_default_key :
    [Instr.pdPeekDefaultKey0000, .pdPeekDefaultKey0303, .pdPeekDefaultKey0407 0#2, .pdPeekDefaultKey0808,
      .pdPeekDefaultKey0B0B, .pdPeekDefaultKey0C0F 0#2, .pdPeekDefaultKey1011 1#1, .pdPeekDefaultKey1212,
      .pdPeekDefaultKey1417 0#2, .pdPeekDefaultKey181F 0#3, .pdPeekDefaultKey203F 0#5, .pdPeekDefaultKey407F 0#6,
      .pdPeekDefaultKey80FF 0#7].map (fun i =>
      (goesOn (exec i (placed (.peek 1) [0x11#8]))).map (fun a => (a.c, a.phase))) =
      List.replicate 13 (some (0, .value { key := ascii ['d', 'a', 't', 'a'], left := 1, vals := [] } [])) := by decide

/-- T-P11: a duplicate key replaces in place, when the second element of a merge branch is delivered. -/
theorem test_merge_replaces :
    (goesOn (.next (State.reset.deliverPayload Attempt.start [{ key := [0x4B#8], vals := [.int .u8 2] }]
      [{ left := 1, entries := [{ key := [0x4B#8], vals := [.int .u8 1] }, { key := [0x4C#8], vals := [] }] }]))).map
      Attempt.merges =
      some [{ left := 0, entries := [{ key := [0x4B#8], vals := [.int .u8 2] }, { key := [0x4C#8], vals := [] }] }] := by
  decide

/-! ### The Value Decoder, one row each (95_test_vectors.md 2.5) -/

/-- T-V1: null, one byte. -/
theorem test_vd_null :
    readValue .vd0 [0x00#8] = some (1, [.null]) := by decide

/-- T-V2: an empty array, and the count of a structure that is not empty. -/
theorem test_vd_composite :
    readValue .vd1 [0x01#8, 0x00#8] = some (2, [.seq .nil]) ∧
    (goesOn (exec .vd2 (placed valuePhase [0x02#8, 0x02#8]))).map (fun a => (a.c, a.phase)) =
      some (2, .value { key := [], left := 1, vals := [] } [{ left := 1, items := [] }]) := by decide

/-- T-V3: the last item makes the value `seq[int(u8, 5), null]`. -/
theorem test_vd_composite_returns :
    (goesOn (.next (State.reset.deliverValue Attempt.start { key := [], left := 1, vals := [] } .null
      [{ left := 0, items := [.int .u8 5] }]))).map Attempt.phase =
      some (.value { key := [], left := 0, vals := [.seq (.cons (.int .u8 5) (.cons .null .nil))] } []) := by decide

/-- T-V7, T-V9. -/
theorem test_vd_boolean :
    readValue .vd3 [0x03#8, 0x00#8] = some (2, [.bool false]) ∧
    readValue .vd3 [0x03#8, 0xFF#8] = some (2, [.bool true]) := by decide

/-- T-V10. -/
theorem test_vd_bit_string :
    readValue .vd4 [0x04#8, 0xA5#8] = some (2, [.bits 0xA5#8]) := by decide

/-- T-V13, T-V14. -/
theorem test_vd_int32 :
    readValue .vd5 [0x05#8, 0xFF#8, 0xFF#8, 0xFF#8, 0xFF#8] = some (5, [.int .i32 (-1)]) ∧
    readValue .vd5 [0x05#8, 0x80#8, 0x00#8, 0x00#8, 0x00#8] = some (5, [.int .i32 (-2147483648)]) := by decide

/-- T-V16, T-V17. -/
theorem test_vd_uint32 :
    readValue .vd6 [0x06#8, 0xFF#8, 0xFF#8, 0xFF#8, 0xFF#8] = some (5, [.int .u32 4294967295]) ∧
    readValue .vd6 [0x06#8, 0x00#8, 0x00#8, 0x01#8, 0x00#8] = some (5, [.int .u32 256]) := by decide

/-- T-V18, T-V19. -/
theorem test_vd_octet_string :
    readValue .vd9 [0x09#8, 0x00#8] = some (2, [.octets []]) ∧
    readValue .vd9 [0x09#8, 0x03#8, 0x01#8, 0xAB#8, 0xFF#8] = some (5, [.octets [0x01#8, 0xAB#8, 0xFF#8]]) := by decide

/-- T-V20. -/
theorem test_vd_visible_string :
    readValue .vd10 [0x0A#8, 0x03#8, 0x41#8, 0x42#8, 0x43#8] = some (5, [.visible [0x41#8, 0x42#8, 0x43#8]]) := by decide

/-- T-V21. -/
theorem test_vd_utf8_string :
    readValue .vd12 [0x0C#8, 0x02#8, 0xC3#8, 0xA9#8] = some (4, [.utf8 [0xC3#8, 0xA9#8]]) := by decide

/-- T-V22, T-V23. -/
theorem test_vd_bcd :
    readValue .vd13 [0x0D#8, 0x42#8] = some (2, [.bcd 0x42#8]) ∧
    readValue .vd13 [0x0D#8, 0x9F#8] = some (2, [.bcd 0x9F#8]) := by decide

/-- T-V24, T-V26. -/
theorem test_vd_int8 :
    readValue .vd15 [0x0F#8, 0x80#8] = some (2, [.int .i8 (-128)]) ∧
    readValue .vd15 [0x0F#8, 0x7F#8] = some (2, [.int .i8 127]) := by decide

/-- T-V27, T-V28. -/
theorem test_vd_int16 :
    readValue .vd16 [0x10#8, 0x80#8, 0x00#8] = some (3, [.int .i16 (-32768)]) ∧
    readValue .vd16 [0x10#8, 0xFF#8, 0x85#8] = some (3, [.int .i16 (-123)]) := by decide

/-- T-V29. -/
theorem test_vd_uint8 :
    readValue .vd17 [0x11#8, 0xFF#8] = some (2, [.int .u8 255]) := by decide

/-- T-V30, T-V31. -/
theorem test_vd_uint16 :
    readValue .vd18 [0x12#8, 0xFF#8, 0xFF#8] = some (3, [.int .u16 65535]) ∧
    readValue .vd18 [0x12#8, 0x00#8, 0xEB#8] = some (3, [.int .u16 235]) := by decide

/-- T-V33, T-V34. -/
theorem test_vd_int64 :
    readValue .vd20 [0x14#8, 0x80#8, 0x00#8, 0x00#8, 0x00#8, 0x00#8, 0x00#8, 0x00#8, 0x00#8] = some (9, [.int .i64 (-9223372036854775808)]) ∧
    readValue .vd20 [0x14#8, 0xFF#8, 0xFF#8, 0xFF#8, 0xFF#8, 0xFF#8, 0xFF#8, 0xFF#8, 0xFE#8] = some (9, [.int .i64 (-2)]) := by decide

/-- T-V35. -/
theorem test_vd_uint64 :
    readValue .vd21 [0x15#8, 0xFF#8, 0xFF#8, 0xFF#8, 0xFF#8, 0xFF#8, 0xFF#8, 0xFF#8, 0xFF#8] = some (9, [.int .u64 18446744073709551615]) := by decide

/-- T-V36, T-V39. -/
theorem test_vd_enum :
    readValue .vd22 [0x16#8, 0x1B#8] = some (2, [.unit [0x57#8]]) ∧
    readValue .vd22 [0x16#8, 0x63#8] = some (2, [.unit [0x2A#8]]) := by decide

/-- T-V43. -/
theorem test_vd_date_time :
    readValue .vd25 [0x19#8, 0x07#8, 0xE7#8, 0x01#8, 0x0F#8, 0x07#8, 0x0E#8, 0x1E#8, 0x00#8, 0xFF#8, 0x80#8, 0x00#8, 0x00#8] = some (13, [.datetime [0x07#8, 0xE7#8, 0x01#8, 0x0F#8, 0x07#8, 0x0E#8, 0x1E#8, 0x00#8, 0xFF#8, 0x80#8, 0x00#8, 0x00#8]]) := by decide

/-- T-V44. -/
theorem test_vd_date :
    readValue .vd26 [0x1A#8, 0x07#8, 0xE7#8, 0x01#8, 0x0F#8, 0x07#8] = some (6, [.date [0x07#8, 0xE7#8, 0x01#8, 0x0F#8, 0x07#8]]) := by decide

/-- T-V45. -/
theorem test_vd_time :
    readValue .vd27 [0x1B#8, 0x0E#8, 0x1E#8, 0x00#8, 0x00#8] = some (5, [.time [0x0E#8, 0x1E#8, 0x00#8, 0x00#8]]) := by decide

/-- T-V32, T-V41, T-V42, T-V46: an unsupported tag fails at cursor 1. -/
theorem test_vd_unsupported :
    [Instr.vd7, .vd8, .vd11, .vd14, .vd19, .vd23, .vd24, .vdOther1C1F 0#2, .vdOther203F 0#5, .vdOther407F 0#6,
      .vdOther80FF 127#7].map (fun i => ended (exec i (placed valuePhase [0x07#8, 0x01#8, 0x02#8, 0x03#8, 0x04#8]))) =
      List.replicate 11 (some (8, [0x04#8])) := by decide

/-- T-V47, T-V48, T-V50: bodies past the end. -/
theorem test_vd_out_of_bounds :
    ended (exec .vd5 (placed valuePhase [0x05#8, 0x00#8, 0x00#8])) = some (9, []) ∧
    ended (exec .vd9 (placed valuePhase [0x09#8, 0x05#8, 0x01#8, 0x02#8])) = some (9, []) ∧
    ended (step (placed valuePhase [])) = some (9, []) := by decide

/-! ### CRC, OBIS, clock, class-3, unit, text (95_test_vectors.md 2.3 and 2.6) -/

/-- R240: the check value, and the short spans. -/
theorem test_crc_values :
    crc16 [0x31#8, 0x32#8, 0x33#8, 0x34#8, 0x35#8, 0x36#8, 0x37#8, 0x38#8, 0x39#8] = 0x906E#16 ∧
    crc16 [] = 0x0000#16 ∧ crc16 [0x00#8] = 0xF078#16 ∧ crc16 [0xFF#8] = 0xFF00#16 ∧
    crc16 [0xA0#8, 0x4C#8, 0x41#8, 0x08#8, 0x83#8, 0x13#8] = 0x892F#16 := by decide +kernel

/-- R240: 0x8408 is 0x1021 with its bits reversed. -/
theorem test_crc_polynomials : Config.params.crcPoly.reverse = Config.params.crcPolyReflected := by decide

/-- T-O1, T-O3, T-O4, T-O5. -/
theorem test_obis :
    obis [] = [] ∧ obis [1#8, 0#8, 1#8, 8#8, 0#8] = ascii ['1', '-', '0', ':', '1', '.', '8', '.', '0'] ∧
    obis [1#8, 0#8, 1#8, 8#8, 0#8, 255#8] = ascii ['1', '-', '0', ':', '1', '.', '8', '.', '0', '.', '2', '5', '5'] ∧
    obis [1#8, 2#8, 3#8, 4#8, 5#8, 6#8, 7#8] =
      ascii ['1', '-', '2', ':', '3', '.', '4', '.', '5', '.', '6', '.', '7'] := by decide

/-- T-C1 and T-C2. -/
theorem test_clock :
    clock Config.params.clockKey [.octets [0x07#8, 0xE7#8, 1#8, 15#8, 7#8, 14#8, 30#8, 0#8, 0xFF#8, 0x80#8, 0#8, 0#8]] =
      [.text (ascii ['2', '0', '2', '3', '-', '0', '1', '-', '1', '5', ' ', '1', '4', ':', '3', '0', ':', '0', '0'])] ∧
    clock Config.params.clockKey [.octets [0#8, 0x63#8, 12#8, 31#8, 1#8, 5#8, 7#8, 9#8, 0#8, 0#8, 0#8, 0#8]] =
      [.text (ascii ['9', '9', '-', '1', '2', '-', '3', '1', ' ', '0', '5', ':', '0', '7', ':', '0', '9'])] := by decide +kernel

/-- S6 and T-P26: the class-3 shape, and its reverse. -/
theorem test_class3 :
    class3 [.int .u16 235, .seq (.cons (.int .i8 (-1)) (.cons (.unit [0x56#8]) .nil))] =
      [.scaled 235 (-1), .unit [0x56#8]] ∧
    class3 [.int .u8 5, .seq (.cons (.unit [0x57#8]) (.cons (.int .i8 (-1)) .nil))] =
      [.int .u8 5, .seq (.cons (.unit [0x57#8]) (.cons (.int .i8 (-1)) .nil))] := by decide

/-- R25, R362, R367: hex, bits and numerals. -/
theorem test_rendering :
    renderValue (.octets [0x01#8, 0xAB#8, 0xFF#8]) = some (ascii ['0', '1', 'a', 'b', 'f', 'f']) ∧
    renderValue (.bits 0xA5#8) = some (ascii ['1', '0', '1', '0', '0', '1', '0', '1']) ∧
    renderValue (.int .i16 (-123)) = some (ascii ['-', '1', '2', '3']) ∧
    renderValue (.bcd 0x9F#8) = some (ascii ['9', 'f']) ∧ renderValue (.int .u8 0) = some (ascii ['0']) ∧
    renderValue (.utf8 [0xC3#8, 0xA9#8]) = some [0xC3#8, 0xA9#8] := by decide

/-- R507: the class of each code. -/
theorem test_log_class :
    (List.range 10).map (fun n => logClass (BitVec.ofNat 4 n)) =
      [.quiet, .quiet, .quiet, .quiet, .quiet, .warning, .warning, .warning, .drop, .drop] := by decide

/-! ### Whole transactions (95_test_vectors.md 2.1, 2.2 and Part 3) -/

/-- Frame F1. -/
def frameF1 : List Byte := [
   0x7E#8, 0xA0#8, 0x4C#8, 0x41#8, 0x08#8, 0x83#8, 0x13#8, 0x2F#8, 0x89#8, 0xE6#8, 0xE7#8, 0x00#8, 0x0F#8,
   0x40#8, 0x00#8, 0x00#8, 0x00#8, 0x0C#8, 0x07#8, 0xE7#8, 0x01#8, 0x0F#8, 0x07#8, 0x0E#8, 0x1E#8, 0x00#8,
   0xFF#8, 0x80#8, 0x00#8, 0x00#8, 0x01#8, 0x02#8, 0x02#8, 0x02#8, 0x09#8, 0x06#8, 0x00#8, 0x00#8, 0x01#8,
   0x00#8, 0x00#8, 0xFF#8, 0x09#8, 0x0C#8, 0x07#8, 0xE7#8, 0x01#8, 0x0F#8, 0x07#8, 0x0E#8, 0x1E#8, 0x00#8,
   0xFF#8, 0x80#8, 0x00#8, 0x00#8, 0x02#8, 0x03#8, 0x09#8, 0x06#8, 0x01#8, 0x00#8, 0x20#8, 0x07#8, 0x00#8,
   0xFF#8, 0x12#8, 0x00#8, 0xEB#8, 0x02#8, 0x02#8, 0x0F#8, 0xFF#8, 0x16#8, 0x1B#8, 0x35#8, 0x96#8, 0x7E#8]

/-- Frame F2. -/
def frameF2 : List Byte := [
   0x7E#8, 0x25#8, 0x03#8, 0x05#8, 0x93#8, 0x14#8, 0x2A#8, 0xE6#8, 0xE7#8, 0x00#8, 0x0F#8, 0x00#8, 0x00#8,
   0x00#8, 0x01#8, 0x00#8, 0x01#8, 0x02#8, 0x02#8, 0x02#8, 0x0A#8, 0x04#8, 0x54#8, 0x45#8, 0x53#8, 0x54#8,
   0x11#8, 0x2A#8, 0x02#8, 0x03#8, 0x03#8, 0x01#8, 0x04#8, 0xA5#8, 0x0D#8, 0x42#8, 0x67#8, 0x87#8, 0x7E#8]

/-- Frame F5. -/
def frameF5 : List Byte := [
   0x7E#8, 0xA0#8, 0x27#8, 0x41#8, 0x08#8, 0x83#8, 0x13#8, 0x70#8, 0x6F#8, 0xE6#8, 0xE7#8, 0x00#8, 0x0F#8,
   0x40#8, 0x00#8, 0x00#8, 0x00#8, 0x00#8, 0x02#8, 0x03#8, 0x09#8, 0x06#8, 0x01#8, 0x00#8, 0x01#8, 0x08#8,
   0x00#8, 0xFF#8, 0x06#8, 0x00#8, 0x00#8, 0x01#8, 0x00#8, 0x17#8, 0x00#8, 0x00#8, 0x00#8, 0x00#8, 0x7C#8,
   0x03#8, 0x7E#8]

/-- P1: F1 gives one record and leaves BUF empty. -/
theorem test_push_f1 : seen (exec (.push frameF1) State.reset) = some (1, [], 1) := by decide +kernel

/-- P1: the record of F1. -/
theorem test_push_f1_record :
    lastRecord (exec (.push frameF1) State.reset) = some
      { header := {
          encoding := ascii ['A', '-', 'X', 'D', 'R'], frameFormat := 3, segmentation := false, dataLength := 76
          clientAddress := 65#32, serverAddress := 2179#32, control := 0x13#8, headerCrc := 0x892F#16
          frameCrc := 0x9635#16
          dateTime := [0x07#8, 0xE7#8, 1#8, 15#8, 7#8, 14#8, 30#8, 0#8, 0xFF#8, 0x80#8, 0#8, 0#8] }
        payload := [
          { key := Config.params.clockKey
            vals := [.text (ascii ['2', '0', '2', '3', '-', '0', '1', '-', '1', '5', ' ', '1', '4', ':', '3', '0', ':',
              '0', '0'])] },
          { key := ascii ['1', '-', '0', ':', '3', '2', '.', '7', '.', '0', '.', '2', '5', '5']
            vals := [.scaled 235 (-1), .unit [0x57#8]] }] } := by decide +kernel

/-- P3: two frames in one PUSH give one record and leave F2 in BUF. -/
theorem test_push_two_frames :
    seen (exec (.push (frameF1 ++ frameF2)) State.reset) = some (1, frameF2, 1) := by decide +kernel

/-- T-F22: F5 fails at tag 23 and leaves `00 7C 03 7E`. -/
theorem test_push_f5 :
    seen (exec (.push frameF5) State.reset) = some (8, [0x00#8, 0x7C#8, 0x03#8, 0x7E#8], 0) := by decide +kernel

/-- T-F1: no flag, nothing changes. -/
theorem test_push_no_flag :
    seen (exec (.push [0x01#8, 0x02#8, 0x03#8]) State.reset) = some (2, [0x01#8, 0x02#8, 0x03#8], 0) := by decide

/-- T-F17: DLEN 9, the payload tag is past the end. With `witness_push_outcomes` a witness for `PushBufferByOutcome`. -/
theorem test_push_out_of_bounds :
    seen (exec (.push ([0x7E#8, 0xA0#8, 0x09#8, 0x41#8, 0x03#8, 0x13#8, 0x08#8, 0x88#8, 0x47#8, 0x0F#8, 0x7E#8]
      ++ List.replicate 6 0x00#8)) State.reset) = some (9, [], 0) := by decide +kernel

/-- T-F9: DLEN 0 fails the FCS step. -/
theorem test_push_dlen_zero :
    (seen (exec (.push ([0x7E#8, 0x00#8, 0x41#8, 0x03#8, 0x13#8, 0x06#8, 0xA8#8] ++ List.replicate 9 0x00#8))
      State.reset)).map (fun e => (e.1, e.2.1.length)) = some (6, 15) := by decide +kernel

/-- T-H6: an overflow clears the held bytes and keeps the chunk. -/
theorem test_receive_overflow :
    ((Memory.ofBytes (filler 2048)).receive [0x7E#8]).bytes = [0x7E#8] := by
  simp [Memory.bytes_receive, Config.params, length_filler]

/-- T-H9: equal to MAX_BUFFER is no overflow. -/
theorem test_receive_exact :
    ((Memory.ofBytes (filler 2047)).receive [0x7E#8]).bytes = filler 2047 ++ [0x7E#8] := by
  simp [Memory.bytes_receive, Config.params, length_filler]

/-- T-H2 and T-H5: READ_LATEST after power-up, and RESET after a record. -/
theorem test_read_latest_and_reset :
    (match exec .readLatest State.reset with
      | .next s => s.response
      | _ => none) = some { valid := false, record := Record.default } ∧
    (match exec .reset { State.reset with latestValid := true, out := [Record.default], status := 1#4 } with
      | .next s => some (s.latestValid, s.out.length, s.status)
      | _ => none) = some (false, 1, 0#4) := by decide

/-- T-H10, R211: a chunk outside the contract, and a transaction inside another. -/
theorem test_contract_breaks :
    refusal (exec (.push (filler 2049)) State.reset) = some .chunkTooLong ∧
    refusal (exec .reset (placed .flag [])) = some .overlappingTransaction := by
  refine ⟨?_, by decide⟩
  simp [exec, execPush, State.whenIdle, State.reset, chunkWellFormed, Config.params, refusal, length_filler]

/-- Log 11: a byte row with no attempt. -/
theorem test_row_out_of_place : refusal (exec .vd0 State.reset) = some .notAtPosition := by decide

/-! ### Witnesses: the hypotheses of each statement are met -/

/-- `StepKeepsInvariant`: an idle block with a request, and a step inside an attempt. -/
theorem witness_step_keeps_invariant :
    ({ State.reset with inbox := [.push [0x7E#8]] } : State).inv = true ∧
    seen (step { State.reset with inbox := [.push [0x7E#8]] }) = some (3, [0x7E#8], 0) ∧
    (placed valuePhase [0x11#8, 0x05#8]).inv = true ∧
    (goesOn (step (placed valuePhase [0x11#8, 0x05#8]))).isSome = true := by
  decide

/-- `NothingStopsButLongChunk`: both kinds of step, and a PUSH within the contract. -/
theorem witness_nothing_stops :
    refusal (step { State.reset with inbox := [.push (filler 2049)] }) = some .chunkTooLong ∧
    seen (step State.reset) = some (0, [], 0) ∧ State.reset.attempt = none ∧ ([] : List Byte).length ≤ 2048 := by
  refine ⟨?_, by decide, rfl, by decide⟩
  simp [step, exec, HostRequest.toInstr, execPush, State.whenIdle, State.reset, chunkWellFormed, Config.params, refusal, length_filler]

/-- `StepRunsDecodedInstruction`: a request waiting, none, a row at the cursor, none there. -/
theorem witness_step_runs_decoded_instruction :
    ({ State.reset with inbox := [.readLatest] } : State).attempt = none ∧ State.reset.inbox = [] ∧
    Phase.payload ≠ .flag ∧ decodeAt Phase.payload.position ((placed .payload [0x00#8]).buf.bytes.drop 0) =
      .ok (.pdNull, []) ∧
    decodeAt Phase.format.position ((placed .format [0x80#8]).buf.bytes.drop 0) = .error .endOfBuffer := by
  decide

/-- `FlagSearchFindsFirstFlag`: a flag at index 1 and none before it; and no flag. -/
theorem witness_flag_search :
    (placed .flag [0x01#8, 0x7E#8]).standsAt { Attempt.start with phase := .flag } .flag ∧
    (placed .flag [0x01#8, 0x7E#8]).buf.bytes[1]? = some 0x7E#8 ∧
    (placed .flag [0x01#8, 0x7E#8]).buf.bytes[0]? ≠ some 0x7E#8 ∧
    ∀ j : Nat, (placed .flag []).buf.bytes[j]? ≠ some 0x7E#8 := by
  refine ⟨⟨rfl, rfl⟩, by decide, by decide, ?_⟩
  intro j
  show ([] : List Byte)[j]? ≠ _
  simp

/-- `PushRefinesPseudocode`, `PushRunsItsByteRows`, `PushAppendsBeforeAttempt`: an idle block and a chunk at the bound. -/
theorem witness_push_within_contract :
    State.reset.attempt = none ∧ (filler 2048).length ≤ 2048 ∧
    State.reset.buf.size + (filler 2048).length ≤ 2048 := by
  refine ⟨rfl, ?_, ?_⟩ <;> simp [State.reset, Memory.size, length_filler]

/-- `OverflowDiscardsHeldBytes`: one byte over the capacity, and exactly at it. -/
theorem witness_overflow :
    (Memory.ofBytes (filler 2048)).size + [0x7E#8].length > 2048 ∧
    (Memory.ofBytes (filler 2047)).size + [0x7E#8].length ≤ 2048 := by
  simp [length_filler]

/-- `NumeralRenderingIsExact`: where the clauses of `pad2` meet, a nibble on each side of 10, a negative number (R25). -/
theorem witness_numeral_rendering :
    pad2 0 = ascii ['0', '0'] ∧ pad2 9 = ascii ['0', '9'] ∧ pad2 10 = ascii ['1', '0'] ∧
    pad2 255 = ascii ['2', '5', '5'] ∧ hex [0x9A#8, 0x0F#8] = ascii ['9', 'a', '0', 'f'] ∧
    dec (-1) = ascii ['-', '1'] := by
  decide

/-- `PushPublishesOnSuccessOnly`, `PushBufferByOutcome`, `PushFrame`: a PUSH with each kind of outcome answers a next state.
The resynchronization starts after the first FLAG and the one that follows it (R231), not after the later one. -/
theorem witness_push_outcomes :
    (seen (exec (.push frameF1) State.reset)).map Prod.fst = some 1 ∧
    (seen (exec (.push []) State.reset)).map Prod.fst = some 2 ∧
    seen (exec (.push ([0x55#8, 0x7E#8, 0x7E#8, 0xF1#8, 0x7E#8] ++ List.replicate 13 0x00#8)) State.reset) =
      some (7, [0xF1#8, 0x7E#8] ++ List.replicate 13 0x00#8, 0) ∧
    (seen (exec (.push frameF5) State.reset)).map Prod.fst = some 8 := by
  decide +kernel

/-- The final cursor with which a body ends, and whether it is a success. -/
def finalCursor (view : List Byte) : Option (Bool × Nat) :=
  match headerRef view with
  | .ended _ _ => none
  | .body a =>
    match bodyRef view a with
    | .ok _ cf => some (true, cf)
    | .fail cf => some (false, cf)
    | .oob => none

/-- `PushBufferByOutcome`, outcomes 1 and 8: F1's payload ends exactly at its FCS (R246: the FCS and the closing flag
are dropped), and F5's final cursor is three bytes before the four that its PUSH leaves (`test_push_f5`). -/
theorem witness_push_final_cursor :
    finalCursor frameF1 = some (true, frameF1.length - 3) ∧
    finalCursor frameF5 = some (false, frameF5.length - 7) := by
  decide +kernel

/-- `AttemptDependsOnBufferAlone`: two blocks that differ in everything but BUF. -/
theorem witness_attempt_depends_on_buffer :
    State.reset.buf = ({ State.reset with status := 9#4, latestValid := true } : State).buf ∧
    (seen (exec (.push [0x7E#8]) State.reset)).map Prod.fst = some 3 ∧
    (seen (exec (.push [0x7E#8]) { State.reset with status := 9#4, latestValid := true })).map Prod.fst = some 3 := by
  decide

/-- `SplitPushesCompose`: F1 cut after its tenth byte. -/
theorem witness_split_pushes :
    State.reset.buf.size + (frameF1.take 10).length + (frameF1.drop 10).length ≤ 2048 ∧
    (seen (exec (.push (frameF1.take 10)) State.reset)).map Prod.fst = some 3 := by
  decide

/-- `FrameOf2047NeverParses`: `87 FF` after one flag, in 15 bytes. -/
theorem witness_frame_of_2047 :
    State.reset.attempt = none ∧ State.reset.buf = [] ∧ 0x7E#8 ∉ ([] : List Byte) ∧ 0x80 ≤ (0x87#8).toNat ∧
    (0x87#8).toNat ≤ 0xF0 ∧ (0x87#8).toNat % 8 * 256 + (0xFF#8).toNat = 2047 ∧ 12 ≤ (List.replicate 12 0x00#8).length ∧
    ([] ++ List.replicate (0 + 1) 0x7E#8 ++ 0x87#8 :: 0xFF#8 :: List.replicate 12 0x00#8).length ≤ 2048 := by
  decide

/-- `ContractBreaksAreRefused`: 2049 bytes in an idle block; an attempt in progress. -/
theorem witness_contract_breaks :
    State.reset.attempt = none ∧ 2048 < (filler 2049).length ∧ (placed .flag []).attempt ≠ none := by
  refine ⟨rfl, ?_, by decide⟩
  simp [length_filler]

/-- `ReadLatestReturnsSnapshot`, `ResetRestoresAllButOut`: an idle block. -/
theorem witness_idle_transactions :
    State.reset.attempt = none := by
  rfl

/-- `OnlyResetClearsLatestValid`: a READ_LATEST that keeps it, and a step that clears it. -/
theorem witness_latest_valid :
    seen (exec .readLatest { State.reset with latestValid := true }) = some (0, [], 0) ∧
    (match step { State.reset with latestValid := true, inbox := [.reset] } with
      | .next t => t.latestValid
      | _ => true) = false := by
  decide

/-- `EveryByteIsOneInstruction`: bytes on both sides of each bound. -/
theorem witness_bytes_at_positions :
    Position.value ≠ .flag ∧ Position.value ≠ .format ∧ (0x7F#8).toNat < 0x80 ∧ 0xF0 < (0xF1#8).toNat ∧
    0x80 ≤ (0x80#8).toNat ∧ (0x80#8).toNat ≤ 0xF0 ∧ 0x80 ≤ (0xF0#8).toNat ∧ (0xF0#8).toNat ≤ 0xF0 := by
  decide

/-- `RowsDoNotOverlap`: two rows of one position. -/
theorem witness_rows :
    encode .vd0 = .bytes .value [0x00#8] ∧ encode (.vdOther80FF 1#7) = .bytes .value [0x81#8] ∧
    (Instr.vdOther80FF 1#7).row = some (0x80#8, 0x80#8) := by
  decide

/-- `RowsRunOnlyAtTheirPosition`, `ByteRowFrame`: a row, an attempt at its position, a canonical BUF. -/
theorem witness_rows_at_positions :
    encode .pdNull = .bytes .payload [0x00#8] ∧ (placed .payload [0x00#8]).buf.wf = true ∧
    (placed .payload [0x00#8]).attempt = some { Attempt.start with phase := .payload } ∧
    Phase.payload.position = .payload ∧ published (exec .pdNull (placed .payload [0x00#8])) = some [] := by
  decide

/-- `FlagRowSkipsIdleFill`: one idle-fill flag and 14 bytes; the same with 13. -/
theorem witness_flag_row :
    (placed .flag (0x7E#8 :: 0x7E#8 :: List.replicate 14 0x00#8)).standsAt { Attempt.start with phase := .flag } .flag ∧
    (placed .flag (0x7E#8 :: 0x7E#8 :: List.replicate 14 0x00#8)).buf.bytes.drop (0 + 1) =
      List.replicate 1 0x7E#8 ++ List.replicate 14 0x00#8 ∧
    (List.replicate 14 0x00#8).head? ≠ some 0x7E#8 ∧ 14 ≤ (List.replicate 14 0x00#8).length ∧
    (List.replicate 13 0x00#8).length < 14 := by
  exact ⟨⟨rfl, rfl⟩, by decide, by decide, by decide, by decide⟩

/-- `FormatFieldsOfBytes`, `IncompleteFrameWaits`: complete and incomplete at the bound. -/
theorem witness_format_rows :
    (placed .format (List.replicate 38 0x25#8)).standsAt { Attempt.start with phase := .format } .format ∧
    encode (.fmtShort 37#7) = .bytes .format [0x25#8] ∧ (0x25#8).toNat ≤ 0x7F ∧
    0 + (0x25#8).toNat < (placed .format (List.replicate 38 0x25#8)).buf.size ∧
    encode (.fmtExt80BF 0#2 true 19#11) = .bytes .format [0x88#8, 0x13#8] ∧
    0 + ((0x88#8).toNat % 8 * 256 + (0x13#8).toNat) < (placed .format (List.replicate 38 0x25#8)).buf.size ∧
    ¬ (0 + (38#7).toNat < (placed .format (List.replicate 38 0x25#8)).buf.size) ∧
    ¬ (0 + (38#11).toNat < (placed .format (List.replicate 38 0x25#8)).buf.size) ∧
    ¬ (0 + (38#8).toNat < (placed .format (List.replicate 38 0x25#8)).buf.size) := by
  exact ⟨⟨rfl, rfl⟩, by decide, by decide, by decide, by decide, by decide, by decide, by decide, by decide⟩

/-- `UnsupportedFormatResyncs`: the least unsupported byte. -/
theorem witness_unsupported_format :
    (placed .format [0xF1#8]).standsAt { Attempt.start with phase := .format } .format ∧
    encode .fmtUnsupF1F1 = .bytes .format [0xF1#8] ∧ 0xF1 ≤ (0xF1#8).toNat := by
  exact ⟨⟨rfl, rfl⟩, by decide, by decide⟩

/-- `AddressBytesAccumulate`: a third and a fourth byte, of the client and of the server address. -/
theorem witness_address_rows :
    encode (.addrMore 4#7) = .bytes .address [0x08#8] ∧
    (placed (.client 2) [0x08#8]).standsAt { Attempt.start with phase := .client 2 } (.client 2) ∧
    (placed (.server 3) [0x08#8]).standsAt { Attempt.start with phase := .server 3 } (.server 3) := by
  exact ⟨by decide, ⟨rfl, rfl⟩, ⟨rfl, rfl⟩⟩

/-- `ControlRowChecksBothCrcs`, `HeaderCrcMismatchResyncs`: T-F17, where both CRCs match, and a byte of each changed. -/
theorem witness_control_row :
    (ctrlState 0x08#8 0x47#8 9).standsAt { Attempt.start with startOff := 1, c := 5, dlen := 9, phase := .control } .control ∧
    (ctrlState 0x08#8 0x47#8 9).buf.bytes[6]? = some 0x08#8 ∧ (ctrlState 0x08#8 0x47#8 9).buf.bytes[7]? = some 0x88#8 ∧
    crc16 (slice (ctrlState 0x08#8 0x47#8 9).buf.bytes 1 6) = 0x88#8 ++ 0x08#8 ∧ (2 : Int) ≤ 9 ∧
    (1 : Int) + 9 = (8 : Nat) + 2 ∧ (ctrlState 0x08#8 0x47#8 9).buf.bytes[8]? = some 0x47#8 ∧
    (ctrlState 0x08#8 0x47#8 9).buf.bytes[9]? = some 0x0F#8 ∧
    crc16 (slice (ctrlState 0x08#8 0x47#8 9).buf.bytes 1 8) = 0x0F#8 ++ 0x47#8 ∧
    crc16 (slice (ctrlState 0x08#8 0x46#8 9).buf.bytes 1 8) ≠ 0x0F#8 ++ 0x46#8 ∧
    crc16 (slice (ctrlState 0x09#8 0x47#8 9).buf.bytes 1 6) ≠ 0x88#8 ++ 0x09#8 := by
  refine ⟨⟨rfl, rfl⟩, ?_⟩
  decide +kernel

/-- `DateTimeScanIsBounded`: a marker with its data and without, a skip at 11 bytes scanned, a length at 12. -/
theorem witness_date_time_rows :
    (placed (.dateTime 11) [0x03#8]).standsAt { Attempt.start with phase := .dateTime 11 } (.dateTime 11) ∧
    (Instr.dtMarker12, 12) ∈ [(Instr.dtMarkerEmpty, 0), (Instr.dtMarker12, 12)] ∧
    0 + 1 + 12 ≤ (placed (.dateTime 11) (List.replicate 13 0x0C#8)).buf.size ∧
    (placed (.dateTime 11) (List.replicate 12 0x0C#8)).buf.size < 0 + 1 + 12 ∧
    encode (.dtSkip0203 1#1) = .bytes .dateTime [0x03#8] ∧ (0x03#8 : Byte) ≠ 0x00#8 ∧ (0x03#8 : Byte) ≠ 0x0C#8 ∧
    12 ≤ 12 ∧ 11 < 12 := by
  exact ⟨⟨rfl, rfl⟩, by decide, by decide, by decide, by decide, by decide, by decide, by decide, by decide⟩

/-- `NullPayloadIsEmptyMapping`, `PayloadCompositeReadsCount`, `OtherPayloadTagsFail`: a tag, its count 0, 1 and missing; the tags at the bounds. -/
theorem witness_payload_rows :
    (placed .payload [0x02#8, 0x00#8]).standsAt { Attempt.start with phase := .payload } .payload ∧
    (placed .payload [0x02#8, 0x00#8]).buf.bytes[0 + 1]? = some 0#8 ∧
    (placed .payload [0x02#8, 0x01#8]).buf.bytes[0 + 1]? = some 1#8 ∧
    (placed .payload [0x02#8]).buf.bytes[0 + 1]? = none ∧
    encode .pdOther0303 = .bytes .payload [0x03#8] ∧ encode .pdOther1212 = .bytes .payload [0x12#8] ∧
    encode (.pdOther1417 0#2) = .bytes .payload [0x14#8] := by
  exact ⟨⟨rfl, rfl⟩, by decide, by decide, by decide, by decide, by decide, by decide⟩

/-- `MergeBranchFlattens`, `StringFirstElementIsKey`, `DefaultKeyTakesAllElements`: a peek, a string that fits exactly, one that does not. -/
theorem witness_peek_rows :
    (placed (.peek 1) [0x0A#8, 0x01#8, 0x41#8]).standsAt { Attempt.start with phase := .peek 1 } (.peek 1) ∧
    Instr.pdPeekMergeCompact ∈ [Instr.pdPeekMergeArray, Instr.pdPeekMergeStruct, Instr.pdPeekMergeCompact] ∧
    (placed (.peek 1) [0x0A#8, 0x01#8, 0x41#8]).buf.bytes[0 + 1]? = some 1#8 ∧
    0 + 2 + (1#8).toNat ≤ (placed (.peek 1) [0x0A#8, 0x01#8, 0x41#8]).buf.size ∧
    (placed (.peek 1) [0x0A#8, 0x02#8, 0x41#8]).buf.size < 0 + 2 + (2#8).toNat ∧
    (placed (.peek 1) [0x0A#8]).buf.bytes[0 + 1]? = none ∧
    encode (.pdPeekDefaultKey1011 1#1) = .bytes .peek [0x11#8] ∧ 0x11#8 ∉ [1#8, 2#8, 9#8, 10#8, 19#8] := by
  exact ⟨⟨rfl, rfl⟩, by decide, by decide, by decide, by decide, by decide, by decide, by decide⟩

/-- `ClockReformatsItsKeyOnly`, `InsertReplacesInPlace`: 12 bytes; a key that is new, and one that is not. -/
theorem witness_clock :
    (List.replicate 12 0x00#8).length = 12 ∧
    ([0x42#8] : Text) ∉ [({ key := [0x41#8], vals := [] } : Entry)].map Entry.key ∧
    ([({ key := [0x41#8], vals := [] } : Entry)].map Entry.key).Nodup := by
  decide

/-- `NullAndCompositeRows`, `BooleanAndEnumRows`, `TextBitStringAndBcdRows`, `OctetStringRow`: a value with its next byte, its string exactly whole, its text printable. -/
theorem witness_value_rows :
    (placed valuePhase [0x09#8, 0x01#8, 0x41#8]).standsAt { Attempt.start with phase := valuePhase } valuePhase ∧
    (placed valuePhase [0x09#8, 0x01#8, 0x41#8]).buf.bytes[0 + 1]? = some 1#8 ∧ (1#8 : Byte) ≠ 0#8 ∧
    (placed valuePhase [0x01#8, 0x00#8]).buf.bytes[0 + 1]? = some 0#8 ∧
    0 + 2 + (1#8).toNat ≤ (placed valuePhase [0x09#8, 0x01#8, 0x41#8]).buf.size ∧
    ∀ b ∈ ((placed valuePhase [0x09#8, 0x01#8, 0x41#8]).buf.bytes.drop (0 + 2)).take (1#8).toNat,
      0x20 ≤ b.toNat ∧ b.toNat ≤ 0x7E := by
  exact ⟨⟨rfl, rfl⟩, by decide, by decide, by decide, by decide, by decide⟩

/-- `IntegerRowsAreExact`, `FixedBlobRows`: the widest integer exactly whole; a date exactly whole. -/
theorem witness_fixed_rows :
    (placed valuePhase (List.replicate 9 0x14#8)).standsAt { Attempt.start with phase := valuePhase } valuePhase ∧
    0 + 1 + 8 ≤ (placed valuePhase (List.replicate 9 0x14#8)).buf.size ∧
    (Instr.vd26, 5, Value.date) = (Instr.vd26, 5, Value.date) ∧
    0 + 1 + 5 ≤ (placed valuePhase (List.replicate 6 0x1A#8)).buf.size := by
  exact ⟨⟨rfl, rfl⟩, by decide, rfl, by decide⟩

/-- `UnsupportedTagsFail`, `BodyPastEndIsOutOfBounds`: tags at the bounds; bodies one byte short. -/
theorem witness_failing_rows :
    (placed valuePhase [0x05#8, 0x00#8]).standsAt { Attempt.start with phase := valuePhase } valuePhase ∧
    encode .vd24 = .bytes .value [0x18#8] ∧ encode (.vdOther1C1F 0#2) = .bytes .value [0x1C#8] ∧
    (0x18#8).toNat ∈ [7, 8, 11, 14, 19, 23, 24] ∧ 28 ≤ (0x1C#8).toNat ∧
    (placed valuePhase [0x05#8, 0x00#8, 0x00#8, 0x00#8]).buf.size < 0 + 1 + 4 ∧
    (placed valuePhase [0x09#8, 0x02#8, 0x00#8]).buf.bytes[0 + 1]? = some 2#8 ∧
    (placed valuePhase [0x09#8, 0x02#8, 0x00#8]).buf.size < 0 + 2 + (2#8).toNat := by
  exact ⟨⟨rfl, rfl⟩, by decide, by decide, by decide, by decide, by decide, by decide, by decide⟩

/-- `MultiByteAssembly`, `UnitTablePinnedCodes`, `BufferPrimitives`: four address bytes; the codes at the bounds; a canonical buffer. -/
theorem witness_operands :
    [0xFE#8, 0xFE#8, 0xFE#8, 0xFF#8].length ≤ 4 ∧ (73#8).toNat ≥ 73 ∧ (0#8).toNat = 0 ∧
    (Memory.ofBytes [0x01#8, 0x02#8]).wf = true ∧ (Memory.ofBytes [0x01#8, 0x02#8]).size ≤ 2 ∧
    (Memory.ofBytes [0x01#8, 0x02#8]).size + [0x03#8].length ≤ 2048 := by
  decide

end Sys2Proof.Tests
end

section
/-! PROOFS. The host transactions (40_host_transactions.md R202, R203, R206): what BUF is after the overflow test
and the append, that a PUSH is decided by the state its attempt begins in, and what each end of that attempt publishes. -/

namespace Sys2Proof.Machine

/-! ### BUF after the overflow test and the append -/

/-- R202: on an overflow nothing of what was held is left. -/
theorem Memory.receive_of_overflow {m : Memory} {chunk : List Byte} (h : m.size + chunk.length > 2048) :
    m.receive chunk = Memory.ofBytes chunk := by
  have hmax : m.size + chunk.length > Config.params.maxBuffer := h
  rw [Memory.receive_eq_ofBytes, Memory.bytes_receive, if_pos hmax, List.nil_append]

/-- R202, R203: up to MAX_BUFFER, and equal to it, the chunk follows what was held. -/
theorem Memory.receive_of_fits {m : Memory} {chunk : List Byte} (h : m.size + chunk.length ≤ 2048) :
    m.receive chunk = Memory.ofBytes (m.bytes ++ chunk) := by
  have hmax : ¬ m.size + chunk.length > Config.params.maxBuffer := Nat.not_lt.mpr h
  rw [Memory.receive_eq_ofBytes, Memory.bytes_receive, if_neg hmax]

/-- An empty buffer is left with the chunk alone. -/
theorem Memory.receive_nil {chunk : List Byte} (h : chunk.length ≤ 2048) :
    Memory.receive [] chunk = Memory.ofBytes chunk :=
  Memory.receive_of_fits (m := []) (by simpa [Memory.size] using h)

/-! ### A PUSH and the state its attempt begins in -/

/-- A PUSH that answers was idle before it, and its chunk was within the contract (R201, R211). -/
theorem idle_and_fits_of_execPush {s t : State} {chunk : List Byte} (h : execPush chunk s = .next t) :
    s.attempt = none ∧ chunk.length ≤ Config.params.maxChunk := by
  unfold execPush State.whenIdle at h
  split at h
  · split at h
    · next hs hw => exact ⟨hs, of_decide_eq_true hw⟩
    · contradiction
  · contradiction

/-- A PUSH that answers has run one attempt, from its start to one of its ends. -/
theorem ending_of_execPush {s t : State} {chunk : List Byte} (h : execPush chunk s = .next t) :
    Ending (s.beginPush chunk) t := by
  obtain ⟨hs, hc⟩ := idle_and_fits_of_execPush h
  obtain ⟨u, hu, he⟩ := execPush_ends hs hc
  rw [h] at hu
  injection hu with htu
  exact htu ▸ he

/-- In an idle block and within the contract a PUSH is decided by the state its attempt begins in: two PUSHes that begin
alike answer alike. -/
theorem execPush_congr {s s' : State} {chunk chunk' : List Byte} (hs : s.attempt = none) (hs' : s'.attempt = none)
    (hc : chunk.length ≤ 2048) (hc' : chunk'.length ≤ 2048) (h : s.beginPush chunk = s'.beginPush chunk') :
    execPush chunk s = execPush chunk' s' := by
  have hw : chunkWellFormed chunk = true := decide_eq_true hc
  have hw' : chunkWellFormed chunk' = true := decide_eq_true hc'
  simp only [execPush, State.whenIdle, hs, hs', hw, hw', h]

/-- Of BUF, the attempt sees what the overflow test and the append have left. -/
theorem State.beginPush_with_buf {s : State} {m : Memory} {chunk chunk' : List Byte}
    (h : s.buf.receive chunk = m.receive chunk') :
    s.beginPush chunk = { s with buf := m }.beginPush chunk' := by
  simp only [State.beginPush, h]

/-! ### What an end publishes -/

/-- Code 1 is RECORD_OK's alone (R500). -/
theorem ParseOutcome.recordOk_of_code {oc : ParseOutcome} (h : oc.code = 1#4) : oc = .recordOk := by
  revert h
  cases oc <;> decide

/-- An attempt that ends with RECORD_OK has stored one record and emitted the same one (R206). -/
theorem Ending.published_of_recordOk {s t : State} (h : Ending s t) (ht : t.status = 1#4) :
    t.latestValid = true ∧ t.out = s.out ++ [t.latest] := by
  cases h with
  | published a p => exact ⟨rfl, rfl⟩
  | insufficient oc hoc =>
    rw [ParseOutcome.recordOk_of_code ht] at hoc
    contradiction
  | resync oc a hoc =>
    rw [ParseOutcome.recordOk_of_code ht] at hoc
    contradiction
  | failed cf => simp at ht
  | outOfBounds => simp at ht

/-- An attempt that ends with another outcome leaves LATEST, LATEST_VALID and OUT (R206). -/
theorem Ending.record_unchanged {s t : State} (h : Ending s t) (ht : t.status ≠ 1#4) :
    t.latest = s.latest ∧ t.latestValid = s.latestValid ∧ t.out = s.out := by
  cases h with
  | published a p => exact absurd rfl ht
  | insufficient oc hoc => exact ⟨rfl, rfl, rfl⟩
  | resync oc a hoc => exact ⟨rfl, rfl, rfl⟩
  | failed cf => exact ⟨rfl, rfl, rfl⟩
  | outOfBounds => exact ⟨rfl, rfl, rfl⟩

/-! ### The obligations -/

/-- Settles O11: a PUSH that answers has run its attempt to an end, and only the end with RECORD_OK publishes. -/
theorem pushPublishesOnSuccessOnly : Obligations.PushPublishesOnSuccessOnly := by
  intro s t chunk h
  have he : Ending (s.beginPush chunk) t := ending_of_execPush h
  exact ⟨he.published_of_recordOk, he.record_unchanged⟩

/-- Settles O9: over the bound BUF is the chunk alone, as it is for a PUSH into an empty BUF; up to the bound the chunk
follows what was held. -/
theorem overflowDiscardsHeldBytes : Obligations.OverflowDiscardsHeldBytes := by
  intro s chunk hs hc
  constructor
  · intro hover
    have hbuf : s.buf.receive chunk = Memory.receive [] chunk := by
      rw [Memory.receive_of_overflow hover, Memory.receive_nil hc]
    exact execPush_congr hs hs hc hc (State.beginPush_with_buf hbuf)
  · intro hfits
    rw [State.beginPush_buf, Memory.receive_of_fits hfits, Memory.bytes_ofBytes]

/-- Settles O10: a chunk that fits leaves the same BUF to the attempt as an empty chunk over a buffer that holds it. -/
theorem pushAppendsBeforeAttempt : Obligations.PushAppendsBeforeAttempt := by
  intro s chunk hs hfits
  have hheld : (Memory.ofBytes (s.buf.bytes ++ chunk)).size + ([] : List Byte).length ≤ 2048 := by simpa using hfits
  have hbuf : s.buf.receive chunk = (Memory.ofBytes (s.buf.bytes ++ chunk)).receive [] := by
    rw [Memory.receive_of_fits hfits, Memory.receive_of_fits hheld, Memory.bytes_ofBytes, List.append_nil]
  have hempty : s.buf.size + ([] : List Byte).length ≤ 2048 := Nat.le_of_add_right_le hfits
  constructor
  · exact execPush_congr hs hs (Nat.le_of_add_left_le hfits) (Nat.zero_le _) (State.beginPush_with_buf hbuf)
  · rw [State.beginPush_buf, Memory.receive_of_fits hempty, Memory.bytes_ofBytes, List.append_nil]

end Sys2Proof.Machine
end

section
/-! PROOFS. The frame synchronizer and header parser (41_frame_sync.md R230, R235, R238): where the flag search ends, the
completeness guard of the format rows, and what the control row's two CRC checks lead to. -/

namespace Sys2Proof.Machine

/-! ### The flag search -/

/-- R230: the search ends at the first FLAG at or after the cursor. -/
theorem findFlag_of_first {view : List Byte} {c i : Nat} (hc : c ≤ i) (hi : view[i]? = some Config.params.flag)
    (hfirst : ∀ j, c ≤ j → j < i → view[j]? ≠ some Config.params.flag) : findFlag view c = some i := by
  obtain ⟨hlt, hget⟩ := List.getElem?_eq_some_iff.mp hi
  obtain ⟨k, rfl⟩ := Nat.exists_eq_add_of_le hc
  have hk : (view.drop c).findIdx? (fun b => b == Config.params.flag) = some k := by
    rw [List.findIdx?_eq_some_iff_getElem]
    refine ⟨by simp; omega, by simpa using hget, fun j hj => ?_⟩
    have hj' := hfirst (c + j) (Nat.le_add_right c j) (Nat.add_lt_add_left hj c)
    rw [List.getElem?_eq_getElem (by omega)] at hj'
    simpa using hj'
  rw [findFlag, hk, Option.map_some]

/-- R230: where no FLAG stands at or after the cursor, the search finds none. -/
theorem findFlag_of_absent {view : List Byte} {c : Nat}
    (h : ∀ j, c ≤ j → view[j]? ≠ some Config.params.flag) : findFlag view c = none := by
  cases hf : findFlag view c with
  | none => rfl
  | some i =>
    obtain ⟨hle, _, hflag⟩ := findFlag_eq_some hf
    exact absurd hflag (h i hle)

section
variable {s : State} {a : Attempt}

/-- A step whose flag search finds a FLAG executes it there. -/
theorem step_of_findFlag_eq_some {i : Nat} (h : s.standsAt a .flag) (hf : findFlag s.buf.bytes a.c = some i) :
    step s = exec .flag (s.resume { a with c := i }) := by
  obtain ⟨ha, hp⟩ := h
  simp only [step, ha, State.fetch, hp, hf, State.afterFetch]

/-- A step whose flag search finds none ends the attempt. -/
theorem step_of_findFlag_eq_none (h : s.standsAt a .flag) (hf : findFlag s.buf.bytes a.c = none) :
    step s = .next (s.endInsufficient .insuffNoFlag) := by
  obtain ⟨ha, hp⟩ := h
  simp only [step, ha, State.fetch, hp, hf, State.afterFetch]

/-- R231: an attempt that goes on after FLAG holds in Fi the index that FLAG was executed at. -/
theorem fi_of_execFlag {t : State} {b : Attempt} (h : s.standsAt a .flag) (ht : execFlag s = .next t)
    (hb : t.attempt = some b) : b.fi = a.c := by
  rw [execFlag, State.atFlag_of h] at ht
  injection ht with ht
  dsimp only at ht
  split at ht
  · rw [← ht, State.endInsufficient_attempt] at hb
    contradiction
  · rw [← ht, State.resume_attempt] at hb
    injection hb with hb
    rw [← hb]

/-! ### The completeness guard -/

/-- R235: a frame whose declared length does not lie in BUF waits for more bytes. -/
theorem State.setFormat_of_incomplete {dlen : Nat} (h : ¬ a.startOff + dlen < s.buf.size) (fmt : Nat) (seg : Bool)
    (width : Nat) : s.setFormat a fmt seg dlen width = s.endInsufficient .insuffIncomplete :=
  if_neg h

/-- The guard in the four extended rows, which share their meaning but for the class. -/
theorem State.setExtFormat_of_incomplete {len : Nat} (h : s.standsAt a .format) (hlen : ¬ a.startOff + len < s.buf.size)
    (cls : Nat) (seg : Bool) : s.setExtFormat cls seg len = .next (s.endInsufficient .insuffIncomplete) := by
  rw [State.setExtFormat, State.atFormat_of h, State.setFormat_of_incomplete hlen]

/-- The guard in the short row. -/
theorem execFmtShort_of_incomplete {len : BitVec 7} (h : s.standsAt a .format)
    (hlen : ¬ a.startOff + len.toNat < s.buf.size) :
    execFmtShort len s = .next (s.endInsufficient .insuffIncomplete) := by
  rw [execFmtShort, State.atFormat_of h, State.setFormat_of_incomplete hlen]

/-! ### The CRC checks -/

/-- R126: a CRC field is its two bytes, low byte first. -/
theorem le16At_of_bytes {view : List Byte} {p : Nat} {lo hi : Byte} (hlo : view[p]? = some lo)
    (hhi : view[p + 1]? = some hi) : le16At view p = some (hi ++ lo) := by
  obtain ⟨hp, rfl⟩ := List.getElem?_eq_some_iff.mp hlo
  obtain ⟨hp', rfl⟩ := List.getElem?_eq_some_iff.mp hhi
  have hread : memRead view p 2 = some [view[p], view[p + 1]] := by
    rw [memRead_eq_some]
    refine ⟨hp', ?_⟩
    rw [slice, Nat.add_sub_cancel_left, List.drop_eq_getElem_cons hp, List.drop_eq_getElem_cons hp']
    rfl
  simp only [le16At, hread, le16]

/-- What the frame CRC's check can do: FCS_MISMATCH, DECODE_OOB, or the attempt goes on with FCS read and the cursor
moved. -/
theorem State.checkFrameCrc_cases (s : State) (a : Attempt) :
    s.checkFrameCrc a = s.endResync a .fcsMismatch ∨ s.checkFrameCrc a = s.raiseOob ∨
      ∃ fcs c, s.checkFrameCrc a = s.resume { a with fcs := fcs, c := c, phase := .dateTime 0 } := by
  unfold State.checkFrameCrc
  dsimp only
  split
  · exact .inl rfl
  · split
    · exact .inr (.inl rfl)
    · split
      · exact .inr (.inr ⟨_, _, rfl⟩)
      · exact .inl rfl

/-- The frame CRC's check never answers HCS_MISMATCH. -/
theorem State.checkFrameCrc_status_ne (h : (s.checkFrameCrc a).attempt = none) : (s.checkFrameCrc a).status ≠ 5#4 := by
  rcases s.checkFrameCrc_cases a with e | e | ⟨fcs, c, e⟩ <;> rw [e] at h ⊢
  · rw [State.endResync_status]
    decide
  · rw [State.raiseOob_status]
    decide
  · rw [State.resume_attempt] at h
    contradiction

/-- The frame CRC's check leaves HCS. -/
theorem State.checkFrameCrc_hcs {b : Attempt} (h : (s.checkFrameCrc a).attempt = some b) : b.hcs = a.hcs := by
  rcases s.checkFrameCrc_cases a with e | e | ⟨fcs, c, e⟩ <;> rw [e] at h
  · rw [State.endResync_attempt] at h
    contradiction
  · rw [State.raiseOob_attempt] at h
    contradiction
  · rw [State.resume_attempt] at h
    injection h with h
    rw [← h]

/-- R238: with its HCS in BUF, the header CRC's check compares it with the CRC from S to the cursor. -/
theorem State.checkHeaderCrc_of_hcs {hcs : BitVec 16} (h : le16At s.buf.bytes a.c = some hcs) :
    s.checkHeaderCrc a = if crc16 (slice s.buf.bytes a.startOff a.c) = hcs then s.checkFrameCrc { a with hcs := hcs }
      else s.endResync a .hcsMismatch := by
  simp only [State.checkHeaderCrc, h]

/-- R237: CTRL at its position stores the control byte and checks the CRCs from the byte after it. -/
theorem execCtrl_of_standsAt (h : s.standsAt a .control) (b : Byte) :
    execCtrl b s = .next (s.checkHeaderCrc { a with ctrl := b, c := a.c + 1 }) :=
  State.atControl_of h _

end

/-! ### The obligations -/

/-- Settles O6: the step is decided by the flag search, which ends at the first FLAG or finds none. -/
theorem flagSearchFindsFirstFlag : Obligations.FlagSearchFindsFirstFlag := by
  intro s a h
  constructor
  · intro i hc hi hfirst
    have hat : (s.resume { a with c := i }).standsAt { a with c := i } .flag := ⟨rfl, h.2⟩
    exact ⟨step_of_findFlag_eq_some h (findFlag_of_first hc hi hfirst), fun t b ht hb => fi_of_execFlag hat ht hb⟩
  · intro habsent
    exact step_of_findFlag_eq_none h (findFlag_of_absent habsent)

/-- Settles O29: the short row and the four extended rows end at the one guard. -/
theorem incompleteFrameWaits : Obligations.IncompleteFrameWaits := by
  intro s a h
  refine ⟨fun len hlen => execFmtShort_of_incomplete h hlen, fun cls cls' seg len hlen => ⟨?_, ?_, ?_⟩,
    fun len hlen => ?_⟩
  all_goals exact State.setExtFormat_of_incomplete h hlen _ _

/-- Settles O33: the header CRC's check decides alone between HCS_MISMATCH and the frame CRC's check, which never answers
HCS_MISMATCH and leaves HCS. -/
theorem headerCrcMismatchResyncs : Obligations.HeaderCrcMismatchResyncs := by
  intro s a b h0 h1 h hb0 hb1
  have hcheck := State.checkHeaderCrc_of_hcs (a := { a with ctrl := b, c := a.c + 1 }) (le16At_of_bytes hb0 hb1)
  have hexec : exec (.ctrl b) s = _ := execCtrl_of_standsAt h b
  rw [hcheck] at hexec
  constructor
  · intro hne
    rw [if_neg hne] at hexec
    exact hexec
  · intro heq t ht
    rw [if_pos heq, ht] at hexec
    injection hexec with hexec
    subst hexec
    exact ⟨State.checkFrameCrc_status_ne, fun next hnext => State.checkFrameCrc_hcs hnext⟩

end Sys2Proof.Machine
end

section
/-! PROOFS. The Payload Decoder (42_payload_decoder.md R301, R303, R306, R311): which rows the shared operations of a
top-level tag and of a peek stand behind, and what a returned mapping leads to. -/

namespace Sys2Proof.Machine

/-! ### The rows at a position -/

/-- R310, R311: a row written at the payload position is PD_NULL, PD_ARRAY or PD_STRUCT, or its decode fails. -/
theorem payloadRow_of_encode {row : Instr} {t : Byte} (h : encode row = .bytes .payload [t]) :
    t.toNat ≤ 2 ∨ ∀ s, exec row s = s.payloadFail := by
  cases row
  case pdNull | pdArray | pdStruct =>
    cases h
    exact .inl (by decide)
  case pdCompact | pdOther0303 | pdOther0407 | pdOther080F | pdOther1011 | pdOther1212 | pdOther1417 | pdOther181F
      | pdOther203F | pdOther407F | pdOther80FF =>
    exact .inr fun _ => rfl
  all_goals cases h

/-- R303-R306: a row written at the peek position starts the merge branch, names a string key, or takes the default key. -/
theorem peekRow_of_encode {row : Instr} {p : Byte} (h : encode row = .bytes .peek [p]) :
    p ∈ [1#8, 2#8, 9#8, 10#8, 19#8] ∨ ∀ s, exec row s = s.payloadDefaultKey := by
  cases row
  case pdPeekMergeArray | pdPeekMergeStruct | pdPeekMergeCompact | pdPeekVisibleKey | pdPeekObisKey =>
    cases h
    exact .inl (by decide)
  case pdPeekDefaultKey0000 | pdPeekDefaultKey0303 | pdPeekDefaultKey0407 | pdPeekDefaultKey0808 | pdPeekDefaultKey0B0B
      | pdPeekDefaultKey0C0F | pdPeekDefaultKey1011 | pdPeekDefaultKey1212 | pdPeekDefaultKey1417
      | pdPeekDefaultKey181F | pdPeekDefaultKey203F | pdPeekDefaultKey407F | pdPeekDefaultKey80FF =>
    exact .inr fun _ => rfl
  all_goals cases h

/-- The three PD_PEEK_MERGE rows are one operation (R303). -/
theorem exec_of_mem_mergeRows {row : Instr}
    (h : row ∈ [Instr.pdPeekMergeArray, Instr.pdPeekMergeStruct, Instr.pdPeekMergeCompact]) (s : State) :
    exec row s = s.payloadMerge := by
  simp only [List.mem_cons, List.not_mem_nil, or_false] at h
  obtain rfl | rfl | rfl := h
  · rfl
  · rfl
  · rfl

/-! ### The shared operations at their positions -/

section
variable {s : State} {a : Attempt}

/-- R311: at a top-level tag the failing rows end the attempt one byte on. -/
theorem State.payloadFail_of (h : s.standsAt a .payload) : s.payloadFail = .next (s.raiseFail (a.c + 1)) :=
  State.atPayload_of h _

/-- R303: at a peek the merge branch opens a frame for the elements and goes on at the first one's tag. -/
theorem State.payloadMerge_of {more : Nat} (h : s.standsAt a (.peek more)) :
    s.payloadMerge =
      .next (s.resume { a with phase := .payload, merges := { left := more, entries := [] } :: a.merges }) :=
  State.atPeek_of h _

/-- R306: at a peek the default key is taken at the same cursor, with every element a value. -/
theorem State.payloadDefaultKey_of {more : Nat} (h : s.standsAt a (.peek more)) :
    s.payloadDefaultKey = .next (s.beginKeyed a Config.params.defaultKey (more + 1)) :=
  State.atPeek_of h _

end

/-! ### A mapping returned to its callers -/

section
variable (s : State) (a : Attempt) (p entries : Payload) (ms : List MergeFrame)

/-- R244, R247: with no caller left the frame is decoded. -/
@[simp] theorem State.deliverPayload_nil : s.deliverPayload a p [] = s.publish a p := rfl

/-- R303: a merge branch with elements to come inserts the mapping and decodes the next one. -/
@[simp] theorem State.deliverPayload_more (n : Nat) :
    s.deliverPayload a p ({ left := n + 1, entries := entries } :: ms) =
      s.resume { a with phase := .payload, merges := { left := n, entries := mergeEntries entries p } :: ms } := rfl

/-- R303: a merge branch after its last element inserts the mapping and returns in turn. -/
@[simp] theorem State.deliverPayload_last :
    s.deliverPayload a p ({ left := 0, entries := entries } :: ms) = s.deliverPayload a (mergeEntries entries p) ms := rfl

end

@[simp] theorem mergeEntries_nil (m : Payload) : mergeEntries m [] = m := rfl

@[simp] theorem mergeEntries_cons (m : Payload) (e : Entry) (p : Payload) :
    mergeEntries m (e :: p) = mergeEntries (insertEntry m e.key e.vals) p := rfl

/-! ### A keyed composite that begins -/

/-- R307: with a value to come, a keyed composite goes on at its first one. -/
@[simp] theorem State.beginKeyed_succ (s : State) (a : Attempt) (key : Text) (n : Nat) :
    s.beginKeyed a key (n + 1) =
      s.resume { a with phase := .value { key := key, left := n, vals := [] } [] } := rfl

/-- R17: DEFAULT_KEY is "data". -/
theorem defaultKey_eq : Config.params.defaultKey = [0x64#8, 0x61#8, 0x74#8, 0x61#8] := by
  decide

/-! ### The obligations -/

/-- Settles O37: PD_NULL stands at its position and returns the empty mapping to the attempt's callers. -/
theorem nullPayloadIsEmptyMapping : Obligations.NullPayloadIsEmptyMapping := by
  intro s a h
  exact State.atPayload_of h _

/-- Settles O39: a row of the payload position whose tag is above 2 fails, one byte on. -/
theorem otherPayloadTagsFail : Obligations.OtherPayloadTagsFail := by
  intro s a row t h hrow ht
  have htag : ¬ t.toNat ≤ 2 := by omega
  have hexec : exec row s = s.payloadFail := (payloadRow_of_encode hrow).resolve_left htag s
  rw [hexec, State.payloadFail_of h]

/-- Settles O40: the three rows open one merge frame, and a returned mapping is folded into it by INSERT. -/
theorem mergeBranchFlattens : Obligations.MergeBranchFlattens := by
  refine ⟨fun s a more row h hrow => ?_, fun s a p entries n ms => ⟨?_, ?_, ?_⟩, fun m e p => ⟨?_, ?_⟩⟩
  · exact (exec_of_mem_mergeRows hrow s).trans (State.payloadMerge_of h)
  · exact State.deliverPayload_more s a p entries ms n
  · exact State.deliverPayload_last s a p entries ms
  · exact State.deliverPayload_nil s a p
  · exact mergeEntries_nil m
  · exact mergeEntries_cons m e p

/-- Settles O42: a row of the peek position with none of the five other tags begins the composite under DEFAULT_KEY. -/
theorem defaultKeyTakesAllElements : Obligations.DefaultKeyTakesAllElements := by
  intro s a more row p h hrow hp
  have hexec : exec row s = s.payloadDefaultKey := (peekRow_of_encode hrow).resolve_left hp s
  rw [hexec, State.payloadDefaultKey_of h, State.beginKeyed_succ, defaultKey_eq]
  rfl

end Sys2Proof.Machine
end

section
/-! PROOFS. The Value Decoder (43_axdr_value_decoder.md R354-R362, R365, R366, R370-R376): what the shared operations answer
whose body lies in BUF, the range of a decoded integer, and which rows stand behind an unsupported tag. -/

namespace Sys2Proof.Machine

/-! ### Reads within BUF -/

/-- MemRead within the view answers its bytes. -/
theorem memRead_of_le {view : List Byte} {addr n : Nat} (h : addr + n ≤ view.length) :
    memRead view addr n = some ((view.drop addr).take n) := by
  rw [memRead_eq_some]
  exact ⟨h, by rw [slice, Nat.add_sub_cancel_left]⟩

/-- R362: a string within the view is the bytes that its length byte counts. -/
theorem readString_of_le {view : List Byte} {addr : Nat} {n : Byte} (hn : view[addr]? = some n)
    (h : addr + 1 + n.toNat ≤ view.length) :
    readString view addr = some ((view.drop (addr + 1)).take n.toNat) := by
  rw [readString, rd8_eq, hn, Option.bind_some, memRead_of_le h]

/-! ### The shared operations at a value's tag -/

section
variable {s : State} {a : Attempt} {kv : Keyed} {calls : List SeqFrame}

/-- R351: a body of `n` bytes within BUF is delivered, with the cursor past it. -/
theorem State.valueOfBytes_of (h : s.standsAt a (.value kv calls)) {n : Nat} (hn : a.c + 1 + n ≤ s.buf.size)
    (mk : List Byte → Value) :
    s.valueOfBytes n mk = .next (s.deliverValue { a with c := a.c + 1 + n } kv
      (mk ((s.buf.bytes.drop (a.c + 1)).take n)) calls) := by
  rw [← Memory.length_bytes] at hn
  rw [State.valueOfBytes, State.atValue_of h, memRead_of_le hn]

/-- R351: a body of one byte in BUF is delivered, with the cursor past it. -/
theorem State.valueOfByte_of (h : s.standsAt a (.value kv calls)) {b : Byte} (hb : s.buf.bytes[a.c + 1]? = some b)
    (mk : Byte → Value) :
    s.valueOfByte mk = .next (s.deliverValue { a with c := a.c + 2 } kv (mk b) calls) := by
  rw [State.valueOfByte, State.atValue_of h, rd8_eq, hb]

/-- R362: a string within BUF is delivered, with the cursor past it. -/
theorem State.valueString_of (h : s.standsAt a (.value kv calls)) {n : Byte} (hn : s.buf.bytes[a.c + 1]? = some n)
    (hle : a.c + 2 + n.toNat ≤ s.buf.size) (mk : List Byte → Value) :
    s.valueString mk = .next (s.deliverValue { a with c := a.c + 2 + n.toNat } kv
      (mk ((s.buf.bytes.drop (a.c + 2)).take n.toNat)) calls) := by
  rw [← Memory.length_bytes] at hle
  have hread := readString_of_le hn hle
  have hlen : ((s.buf.bytes.drop (a.c + 2)).take n.toNat).length = n.toNat := by
    rw [List.length_take, List.length_drop]
    omega
  rw [State.valueString, State.atValue_of h, hread]
  dsimp only
  rw [hlen]

/-- R374-R376: an unsupported tag ends the attempt one byte on. -/
theorem State.valueFail_of (h : s.standsAt a (.value kv calls)) : s.valueFail = .next (s.raiseFail (a.c + 1)) :=
  State.atValue_of h _

end

/-! ### Integers -/

/-- R21: two's complement of `n` bits is the signed range of `n` bits. -/
theorem sext_bounds {n v : Nat} (hn : 0 < n) (hv : v < 2 ^ n) :
    -2 ^ (n - 1) ≤ sext n v ∧ sext n v < 2 ^ (n - 1) := by
  have hpow : 2 ^ n = 2 ^ (n - 1) * 2 := (Nat.two_pow_pred_mul_two hn).symm
  have hcast : (2 : Int) ^ n = 2 ^ (n - 1) * 2 := mod_cast hpow
  have hhalf : ((2 ^ (n - 1) : Nat) : Int) = 2 ^ (n - 1) := Nat.cast_pow 2 (n - 1)
  unfold sext
  split
  · omega
  · omega

/-- R56: the range of a signed kind is that of two's complement at its width. -/
theorem intInRange_of_signed {k : IntKind} {v : Int} (hk : intSigned k = true)
    (hv : -2 ^ (8 * intWidth k - 1) ≤ v ∧ v < 2 ^ (8 * intWidth k - 1)) : intInRange k v = true := by
  cases k
  case i8 | i16 | i32 | i64 =>
    simp only [intWidth] at hv
    simp only [intInRange, decide_eq_true_eq]
    omega
  case u8 | u16 | u32 | u64 => cases hk

/-- R56: the range of an unsigned kind is every natural number of its width. -/
theorem intInRange_of_unsigned {k : IntKind} {u : Nat} (hk : intSigned k = false) (hu : u < 2 ^ (8 * intWidth k)) :
    intInRange k u = true := by
  cases k
  case i8 | i16 | i32 | i64 => cases hk
  case u8 | u16 | u32 | u64 =>
    simp only [intWidth] at hu
    simp only [intInRange, decide_eq_true_eq]
    omega

/-- R355: the bytes of a kind stand for an integer in its range. -/
theorem intInRange_intOfBytes {k : IntKind} {bs : List Byte} (h : bs.length = intWidth k) :
    intInRange k (intOfBytes k bs) = true := by
  have hbe : be bs < 2 ^ (8 * intWidth k) := by
    rw [Nat.pow_mul, ← h]
    exact be_lt bs
  have hwidth : 0 < 8 * intWidth k := by cases k <;> decide
  rw [intOfBytes]
  split
  case isTrue hk => exact intInRange_of_signed hk (sext_bounds hwidth hbe)
  case isFalse hk => exact intInRange_of_unsigned (Bool.eq_false_iff.mpr hk) hbe

/-- R355: an integer whose body lies in BUF is delivered, with the cursor past it. -/
theorem State.valueInt_of {s : State} {a : Attempt} {kv : Keyed} {calls : List SeqFrame}
    (h : s.standsAt a (.value kv calls)) {k : IntKind} (hk : a.c + 1 + intWidth k ≤ s.buf.size) :
    s.valueInt k = .next (s.deliverValue { a with c := a.c + 1 + intWidth k } kv
      (.int k (intOfBytes k ((s.buf.bytes.drop (a.c + 1)).take (intWidth k)))) calls) :=
  State.valueOfBytes_of h hk _

/-- R356-R361, R365, R366: the integer rows with the kind, the width in bytes and the sign of each. -/
def integerRows : List (Instr × IntKind × Nat × Bool) :=
  [(.vd5, .i32, 4, true), (.vd6, .u32, 4, false), (.vd15, .i8, 1, true), (.vd16, .i16, 2, true),
   (.vd17, .u8, 1, false), (.vd18, .u16, 2, false), (.vd20, .i64, 8, true), (.vd21, .u64, 8, false)]

/-- An integer row is INT of its kind, whose width and sign are the row's. -/
theorem exec_of_mem_integerRows {row : Instr} {k : IntKind} {w : Nat} {signed : Bool}
    (h : (row, k, w, signed) ∈ integerRows) :
    (∀ s, exec row s = s.valueInt k) ∧ w = intWidth k ∧ signed = intSigned k := by
  simp only [integerRows, List.mem_cons, Prod.mk.injEq, List.not_mem_nil, or_false] at h
  rcases h with ⟨rfl, rfl, rfl, rfl⟩ | ⟨rfl, rfl, rfl, rfl⟩ | ⟨rfl, rfl, rfl, rfl⟩ | ⟨rfl, rfl, rfl, rfl⟩ |
    ⟨rfl, rfl, rfl, rfl⟩ | ⟨rfl, rfl, rfl, rfl⟩ | ⟨rfl, rfl, rfl, rfl⟩ | ⟨rfl, rfl, rfl, rfl⟩
  all_goals exact ⟨fun _ => rfl, rfl, rfl⟩

/-! ### One-byte values -/

/-- R354: a byte is nonzero when its number is. -/
theorem byte_bne_zero (b : Byte) : (b != 0#8) = decide (b.toNat ≠ 0) := by
  rw [Bool.eq_iff_iff, bne_iff_ne, decide_eq_true_eq, ne_eq, BitVec.toNat_eq]
  rfl

theorem unitSymbol_of_some {code : Byte} {sym : Text} (h : unitTable code = some sym) : unitSymbol code = sym := by
  rw [unitSymbol, h, Option.getD_some]

/-- R18, R373: UNIT_DEFAULT is "*". -/
theorem unitSymbol_of_none {code : Byte} (h : unitTable code = none) : unitSymbol code = [0x2A#8] := by
  rw [unitSymbol, h, Option.getD_none]
  decide

/-! ### The rows at a value's tag -/

/-- R374-R376: a row written at the value position with an unsupported tag fails. -/
theorem valueRow_of_encode {row : Instr} {t : Byte} (h : encode row = .bytes .value [t]) :
    ¬ (t.toNat ∈ [7, 8, 11, 14, 19, 23, 24] ∨ 28 ≤ t.toNat) ∨ ∀ s, exec row s = s.valueFail := by
  cases row
  case vd0 | vd1 | vd2 | vd3 | vd4 | vd5 | vd6 | vd9 | vd10 | vd12 | vd13 | vd15 | vd16 | vd17 | vd18 | vd20 | vd21
      | vd22 | vd25 | vd26 | vd27 =>
    cases h
    exact .inl (by decide)
  case vd7 | vd8 | vd11 | vd14 | vd19 | vd23 | vd24 | vdOther1C1F | vdOther203F | vdOther407F | vdOther80FF =>
    exact .inr fun _ => rfl
  all_goals cases h

/-! ### The obligations -/

/-- Settles O50: each integer row is INT of its kind, and `w` bytes of a kind stand for an integer in its range. -/
theorem integerRowsAreExact : Obligations.IntegerRowsAreExact := by
  intro s a kv calls row k w signed h hrow hle
  obtain ⟨hexec, rfl, rfl⟩ := exec_of_mem_integerRows hrow
  have hlen : ((s.buf.bytes.drop (a.c + 1)).take (intWidth k)).length = intWidth k := by
    rw [List.length_take, List.length_drop, Memory.length_bytes]
    omega
  exact ⟨(hexec s).trans (State.valueInt_of h hle), intInRange_intOfBytes hlen⟩

/-- Settles O52: the octet-string row is the shared string operation, and its value renders as hex by definition. -/
theorem octetStringRow : Obligations.OctetStringRow := by
  intro s a kv calls n h hn hle
  exact ⟨State.valueString_of h hn hle _, rfl⟩

/-- Settles O53: both rows are the shared one-byte operation; the unit symbol splits on the table's answer. -/
theorem booleanAndEnumRows : Obligations.BooleanAndEnumRows := by
  intro s a kv calls b h hb
  constructor
  · rw [← byte_bne_zero]
    exact State.valueOfByte_of h hb _
  · have hexec : exec .vd22 s = _ := State.valueOfByte_of h hb fun code => .unit (unitSymbol code)
    rw [hexec]
    cases hu : unitTable b with
    | some sym => rw [unitSymbol_of_some hu]
    | none => rw [unitSymbol_of_none hu]

/-- Settles O55: the three rows are the shared operation at their lengths, and CLOCK rewrites octets only. -/
theorem fixedBlobRows : Obligations.FixedBlobRows := by
  intro s a kv calls row n mk h hrow hle
  simp only [Prod.mk.injEq] at hrow
  obtain ⟨rfl, rfl, rfl⟩ | ⟨rfl, rfl, rfl⟩ | ⟨rfl, rfl, rfl⟩ := hrow
  all_goals exact ⟨State.valueOfBytes_of h hle _, rfl, fun _ _ => rfl⟩

/-- Settles O56: a row of the value position whose tag is unsupported fails, one byte on. -/
theorem unsupportedTagsFail : Obligations.UnsupportedTagsFail := by
  intro s a kv calls row t h hrow ht
  have hexec : exec row s = s.valueFail := (valueRow_of_encode hrow).resolve_left (not_not_intro ht) s
  rw [hexec, State.valueFail_of h]

end Sys2Proof.Machine
end

section
/-! PROOFS. Exceptions (60_exceptions.md R500, R506): the codes an attempt can end with, and that neither a byte row nor a
host transaction stops the block, but a chunk longer than MAX_CHUNK. -/

namespace Sys2Proof.Machine

/-! ### The outcome codes -/

/-- R500: the codes of the outcomes are 1 to 9. -/
theorem ParseOutcome.code_bounds (oc : ParseOutcome) : 1 ≤ oc.code.toNat ∧ oc.code.toNat ≤ 9 := by
  cases oc <;> decide

/-- R500: STATUS after an attempt is the code of one of the outcomes. -/
theorem Ending.status_eq_code {s t : State} (h : Ending s t) : ∃ oc : ParseOutcome, t.status = oc.code := by
  cases h with
  | insufficient oc _ => exact ⟨oc, rfl⟩
  | resync oc _ _ => exact ⟨oc, rfl⟩
  | failed _ => exact ⟨.decodeFail, rfl⟩
  | outOfBounds => exact ⟨.decodeOob, rfl⟩
  | published _ _ => exact ⟨.recordOk, rfl⟩

/-! ### A step inside an attempt -/

/-- `exec` does with what a fetch finds as the attempt of a PUSH does: only byte rows are fetched. -/
theorem State.afterFetch_exec_fetch (s : State) (a : Attempt) :
    s.afterFetch exec (s.fetch a) = s.attemptStep a := by
  rw [State.attemptStep]
  cases hf : s.fetch a with
  | noFlag => rfl
  | outOfBounds => rfl
  | instr i b =>
    obtain ⟨_, _, _, w, hw⟩ := State.fetch_instr hf
    exact exec_eq_execByteRow (isByteRow_of_encode hw) (s.resume b)

/-- In a running attempt a step is one step of that attempt. -/
theorem step_of_running {s : State} {a : Attempt} (ha : s.attempt = some a) : step s = s.attemptStep a := by
  simp only [step, ha]
  exact s.afterFetch_exec_fetch a

/-! ### A transaction of an idle block -/

section
variable {s : State}

theorem State.whenIdle_of_idle (h : s.attempt = none) (run : Host.Outcome State Fault Refusal) :
    s.whenIdle run = run := by
  simp only [State.whenIdle, h]

/-- R201: a chunk longer than MAX_CHUNK is refused. -/
theorem execPush_of_tooLong {chunk : List Byte} (h : s.attempt = none) (hc : 2048 < chunk.length) :
    execPush chunk s = .refused .chunkTooLong := by
  have hw : chunkWellFormed chunk = false := decide_eq_false (Nat.not_le.mpr hc)
  simp [execPush, State.whenIdle_of_idle h, hw]

/-- An idle block performs every request but a PUSH of a chunk longer than MAX_CHUNK, which it refuses. -/
theorem exec_toInstr_cases (h : s.attempt = none) (r : HostRequest) :
    (∃ t, exec r.toInstr s = .next t) ∨
    ∃ chunk, r = .push chunk ∧ 2048 < chunk.length ∧ exec r.toInstr s = .refused .chunkTooLong := by
  cases r with
  | push chunk =>
    rcases Nat.lt_or_ge 2048 chunk.length with hlong | hfits
    · exact .inr ⟨chunk, rfl, hlong, execPush_of_tooLong h hlong⟩
    · obtain ⟨t, ht, _⟩ := execPush_ends h hfits
      exact .inl ⟨t, ht⟩
  | readLatest => exact .inl ⟨_, State.whenIdle_of_idle h _⟩
  | reset => exact .inl ⟨_, State.whenIdle_of_idle h _⟩

end

/-! ### The obligation -/

/-- Settles O4: a step inside an attempt always goes on, an idle block refuses only the long chunk, and every end of a PUSH's
attempt has the code of an outcome. -/
theorem nothingStopsButLongChunk : Obligations.NothingStopsButLongChunk := by
  constructor
  · intro s
    cases ha : s.attempt with
    | some a =>
      obtain ⟨t, ht, _⟩ := s.attemptStep_cases (a := a)
      exact .inl ⟨t, (step_of_running ha).trans ht⟩
    | none =>
      cases hin : s.inbox with
      | nil => exact .inl ⟨s, by simp only [step, ha, hin]⟩
      | cons r rest =>
        have hstep : step s = exec r.toInstr { s with inbox := rest } := by simp only [step, ha, hin]
        rw [hstep]
        rcases exec_toInstr_cases (s := { s with inbox := rest }) ha r with hnext | ⟨chunk, rfl, hlong, href⟩
        · exact .inl hnext
        · exact .inr ⟨rfl, chunk, rest, rfl, hlong, href⟩
  · intro s chunk hs hc
    obtain ⟨t, ht, hend⟩ := execPush_ends hs hc
    obtain ⟨oc, hoc⟩ := hend.status_eq_code
    refine ⟨t, ht, hend.attempt_none, ?_⟩
    rw [hoc]
    exact oc.code_bounds

end Sys2Proof.Machine
end

section
/-! PROOFS. Rows and their decode position (30_encoding.md R132; logs 1, 11): an operation at a position has its effect
where the attempt stands there and is refused elsewhere, so a byte row runs exactly at its own position. -/

namespace Sys2Proof.Machine

/-! ### An attempt at a position -/

/-- An attempt runs and its step reads at the decode position `p`. -/
def State.readsAt (s : State) (p : Position) : Prop := ∃ a, s.attempt = some a ∧ a.phase.position = p

/-! ### Refused elsewhere -/

section
variable {s : State}

theorem State.atFlag_refused (h : ¬ s.readsAt .flag) (k : Attempt → State) : s.atFlag k = .refused .notAtPosition := by
  unfold State.atFlag
  split
  · rfl
  · next a ha =>
    split
    · next hp => exact absurd ⟨a, ha, hp ▸ rfl⟩ h
    · rfl

theorem State.atFormat_refused (h : ¬ s.readsAt .format) (k : Attempt → State) :
    s.atFormat k = .refused .notAtPosition := by
  unfold State.atFormat
  split
  · rfl
  · next a ha =>
    split
    · next hp => exact absurd ⟨a, ha, hp ▸ rfl⟩ h
    · rfl

theorem State.atAddress_refused (h : ¬ s.readsAt .address) (client server : Attempt → Nat → State) :
    s.atAddress client server = .refused .notAtPosition := by
  unfold State.atAddress
  split
  · rfl
  · next a ha =>
    split
    · next hp => exact absurd ⟨a, ha, hp ▸ rfl⟩ h
    · next hp => exact absurd ⟨a, ha, hp ▸ rfl⟩ h
    · rfl

theorem State.atControl_refused (h : ¬ s.readsAt .control) (k : Attempt → State) :
    s.atControl k = .refused .notAtPosition := by
  unfold State.atControl
  split
  · rfl
  · next a ha =>
    split
    · next hp => exact absurd ⟨a, ha, hp ▸ rfl⟩ h
    · rfl

theorem State.atDateTime_refused (h : ¬ s.readsAt .dateTime) (k : Attempt → Nat → State) :
    s.atDateTime k = .refused .notAtPosition := by
  unfold State.atDateTime
  split
  · rfl
  · next a ha =>
    split
    · next hp => exact absurd ⟨a, ha, hp ▸ rfl⟩ h
    · rfl

theorem State.atPayload_refused (h : ¬ s.readsAt .payload) (k : Attempt → State) :
    s.atPayload k = .refused .notAtPosition := by
  unfold State.atPayload
  split
  · rfl
  · next a ha =>
    split
    · next hp => exact absurd ⟨a, ha, hp ▸ rfl⟩ h
    · rfl

theorem State.atPeek_refused (h : ¬ s.readsAt .peek) (k : Attempt → Nat → State) :
    s.atPeek k = .refused .notAtPosition := by
  unfold State.atPeek
  split
  · rfl
  · next a ha =>
    split
    · next hp => exact absurd ⟨a, ha, hp ▸ rfl⟩ h
    · rfl

theorem State.atValue_refused (h : ¬ s.readsAt .value) (k : Attempt → Keyed → List SeqFrame → State) :
    s.atValue k = .refused .notAtPosition := by
  unfold State.atValue
  split
  · rfl
  · next a ha =>
    split
    · next hp => exact absurd ⟨a, ha, hp ▸ rfl⟩ h
    · rfl

/-! ### All rows -/

/-- Log 11: a byte row executed where its position does not stand is refused. -/
theorem exec_refused {i : Instr} {p : Position} {w : List Byte} (he : encode i = .bytes p w) (h : ¬ s.readsAt p) :
    exec i s = .refused .notAtPosition := by
  cases i <;> cases he
  case flag => exact State.atFlag_refused h _
  case fmtShort | fmtExt80BF | fmtExtC0DF | fmtExtE0EF | fmtExtF0F0 | fmtUnsupF1F1 | fmtUnsupF2F3 | fmtUnsupF4F7
      | fmtUnsupF8FF =>
    exact State.atFormat_refused h _
  case addrMore | addrLast => exact State.atAddress_refused h _ _
  case ctrl => exact State.atControl_refused h _
  case dtMarkerEmpty | dtMarker12 | dtSkip0101 | dtSkip0203 | dtSkip0407 | dtSkip080B | dtSkip0D0D | dtSkip0E0F
      | dtSkip101F | dtSkip203F | dtSkip407F | dtSkip80FF =>
    exact State.atDateTime_refused h _
  case pdNull | pdArray | pdStruct | pdCompact | pdOther0303 | pdOther0407 | pdOther080F | pdOther1011 | pdOther1212
      | pdOther1417 | pdOther181F | pdOther203F | pdOther407F | pdOther80FF =>
    exact State.atPayload_refused h _
  case pdPeekMergeArray | pdPeekMergeStruct | pdPeekMergeCompact | pdPeekVisibleKey | pdPeekObisKey
      | pdPeekDefaultKey0000 | pdPeekDefaultKey0303 | pdPeekDefaultKey0407 | pdPeekDefaultKey0808 | pdPeekDefaultKey0B0B
      | pdPeekDefaultKey0C0F | pdPeekDefaultKey1011 | pdPeekDefaultKey1212 | pdPeekDefaultKey1417
      | pdPeekDefaultKey181F | pdPeekDefaultKey203F | pdPeekDefaultKey407F | pdPeekDefaultKey80FF =>
    exact State.atPeek_refused h _
  case vd0 | vd1 | vd2 | vd3 | vd4 | vd5 | vd6 | vd7 | vd8 | vd9 | vd10 | vd11 | vd12 | vd13 | vd14 | vd15 | vd16
      | vd17 | vd18 | vd19 | vd20 | vd21 | vd22 | vd23 | vd24 | vd25 | vd26 | vd27 | vdOther1C1F | vdOther203F
      | vdOther407F | vdOther80FF =>
    exact State.atValue_refused h _

/-- A byte row at its position answers one of the effects of a row. -/
theorem exec_answers {a : Attempt} {i : Instr} {w : List Byte} (ha : s.attempt = some a)
    (he : encode i = .bytes a.phase.position w) : Answers s a (exec i s) := by
  rw [exec_eq_execByteRow (isByteRow_of_encode he)]
  exact execByteRow_answers ha he

/-- A byte row that answered a next state had its position. -/
theorem readsAt_of_exec {t : State} {i : Instr} {p : Position} {w : List Byte} (he : encode i = .bytes p w)
    (ht : exec i s = .next t) : s.readsAt p := by
  by_contra h
  rw [exec_refused he h] at ht
  contradiction

end

/-! ### A step -/

section
variable {s : State}

/-- R517: an idle block with no request waiting holds its state. -/
theorem step_of_waiting (ha : s.attempt = none) (hin : s.inbox = []) : step s = .next s := by
  simp only [step, ha, hin]

/-- R5: an idle block performs the request that has waited longest. -/
theorem step_of_request {r : HostRequest} {rest : List HostRequest} (ha : s.attempt = none) (hin : s.inbox = r :: rest) :
    step s = exec r.toInstr { s with inbox := rest } := by
  simp only [step, ha, hin]

/-- Past the flag search the fetch reads the instruction at the cursor as it stands. -/
theorem State.fetch_of_ok {a : Attempt} (hp : a.phase ≠ .flag) {i : Instr} {rest : List Byte}
    (h : decodeAt a.phase.position (s.buf.bytes.drop a.c) = .ok (i, rest)) : s.fetch a = .instr i a := by
  unfold State.fetch
  split
  · next hflag => exact absurd hflag hp
  · rw [h]

/-- R82: past the flag search the fetch finds no instruction where its bytes run past the end. -/
theorem State.fetch_of_error {a : Attempt} (hp : a.phase ≠ .flag) {e : DecodeError}
    (h : decodeAt a.phase.position (s.buf.bytes.drop a.c) = .error e) : s.fetch a = .outOfBounds := by
  unfold State.fetch
  split
  · next hflag => exact absurd hflag hp
  · rw [h]

/-- D24: DECODE_OOB clears BUF. -/
theorem State.raiseOob_eq (s : State) : s.raiseOob = { s with buf := [], status := 9#4, attempt := none } := by
  have hbuf : Memory.commitTrim Config.params.trimSkip s.buf s.buf.size = [] := if_pos (Nat.le_add_right _ _)
  simp only [State.raiseOob, State.endAttempt, hbuf]
  rfl

end

/-! ### The obligations -/

/-- Settles O5: the step is the idle block's next request, or what the fetch at the cursor leads to. -/
theorem stepRunsDecodedInstruction : Obligations.StepRunsDecodedInstruction := by
  refine ⟨fun s hs => ⟨fun r rest hin => step_of_request hs hin, step_of_waiting hs⟩, fun s a ha hp => ⟨?_, ?_⟩⟩
  · intro i rest hdecode
    simp only [step, ha, State.fetch_of_ok hp hdecode, State.afterFetch, State.resume_self ha]
  · intro e hdecode
    simp only [step, ha, State.fetch_of_error hp hdecode, State.afterFetch, State.raiseOob_eq]

/-- Settles O25: at its position a byte row answers one of the effects of a row, elsewhere it is refused. -/
theorem rowsRunOnlyAtTheirPosition : Obligations.RowsRunOnlyAtTheirPosition := by
  intro s i p w he
  refine ⟨⟨fun ⟨t, ht⟩ => readsAt_of_exec he ht, ?_⟩, exec_refused he⟩
  rintro ⟨a, ha, rfl⟩
  obtain ⟨t, ht, _⟩ := exec_answers ha he
  exact ⟨t, ht⟩

end Sys2Proof.Machine
end

section
/-! PROOFS. The machine invariant (10_state.md R41, R44-R46, R51, R56; 20_memory.md R100): each way a row can leave the
state keeps it, so every byte row, every attempt and every step do. -/

namespace Sys2Proof.Machine

/-! ### The invariant taken apart -/

/-- The registers of R51 that have a range of their own: FMT, DLEN and DT. -/
def Attempt.registersWf (a : Attempt) : Prop :=
  a.fmt ≤ 8 ∧ (-1 ≤ a.dlen ∧ a.dlen ≤ 2047) ∧ a.dt.length ≤ 255

/-- The callers of the Payload Decoder hold mappings within R46. -/
def mergesWf (ms : List MergeFrame) : Prop := ∀ m ∈ ms, payloadWf m.entries = true

/-- The open composites of the Value Decoder are within R44. -/
def callsWf (fs : List SeqFrame) : Prop := ∀ f ∈ fs, seqFrameWf f = true

theorem Attempt.wf_iff (a : Attempt) :
    a.wf = true ↔ a.registersWf ∧ a.phase.wf = true ∧ mergesWf a.merges := by
  simp only [Attempt.wf, Attempt.registersWf, mergesWf, Bool.and_eq_true, decide_eq_true_eq, List.all_eq_true, and_assoc]

theorem Phase.wf_value (kv : Keyed) (calls : List SeqFrame) :
    (Phase.value kv calls).wf = true ↔ (∀ v ∈ kv.vals, v.wf = true) ∧ callsWf calls := by
  simp only [Phase.wf, callsWf, Bool.and_eq_true, List.all_eq_true]

theorem seqFrameWf_iff (f : SeqFrame) :
    seqFrameWf f = true ↔ f.items.length + 1 + f.left ≤ 255 ∧ ∀ v ∈ f.items, v.wf = true := by
  simp only [seqFrameWf, Bool.and_eq_true, decide_eq_true_eq, List.all_eq_true]

theorem payloadWf_iff (p : Payload) :
    payloadWf p = true ↔ (p.map Entry.key).Nodup ∧ ∀ e ∈ p, ∀ v ∈ e.vals, v.wf = true := by
  simp only [payloadWf, Bool.and_eq_true, decide_eq_true_eq, List.all_eq_true]

/-- The invariant apart from the attempt in progress. -/
def State.heldWf (s : State) : Prop :=
  s.buf.wf = true ∧ statusLegal s.status = true ∧ s.latestCoherent = true ∧ ∀ r ∈ s.out, r.wf = true

theorem State.inv_iff (s : State) : s.inv = true ↔ s.heldWf ∧ ∀ a, s.attempt = some a → a.wf = true := by
  have hattempt : s.attemptWf = true ↔ ∀ a, s.attempt = some a → a.wf = true := by
    unfold State.attemptWf
    split
    · next h => simp [h]
    · next a h => simp [h]
  simp only [State.inv, State.heldWf, Bool.and_eq_true, List.all_eq_true, hattempt, and_assoc]

/-! ### Ways on, and ways to end -/

theorem ParseOutcome.statusLegal_code (oc : ParseOutcome) : statusLegal oc.code = true :=
  decide_eq_true oc.code_bounds.2

section
variable {s : State}

theorem State.inv_resume (hs : s.heldWf) {a : Attempt} (ha : a.wf = true) : (s.resume a).inv = true := by
  refine (State.inv_iff _).mpr ⟨hs, fun b hb => ?_⟩
  cases hb
  exact ha

theorem State.inv_endAttempt (hs : s.heldWf) (oc : ParseOutcome) {m : Memory} (hm : m.wf = true) :
    (s.endAttempt oc m).inv = true := by
  obtain ⟨_, _, hlatest, hout⟩ := hs
  exact (State.inv_iff _).mpr ⟨⟨hm, oc.statusLegal_code, hlatest, hout⟩, nofun⟩

theorem State.inv_endInsufficient (hs : s.heldWf) (oc : ParseOutcome) : (s.endInsufficient oc).inv = true :=
  State.inv_endAttempt hs oc hs.1

theorem State.inv_endResync (hs : s.heldWf) (a : Attempt) (oc : ParseOutcome) : (s.endResync a oc).inv = true :=
  State.inv_endAttempt hs oc (Memory.dropFront_wf hs.1 _)

theorem State.inv_raiseFail (hs : s.heldWf) (cf : Nat) : (s.raiseFail cf).inv = true :=
  State.inv_endAttempt hs _ (Memory.commitTrim_wf hs.1 _ _)

theorem State.inv_raiseOob (hs : s.heldWf) : s.raiseOob.inv = true :=
  State.inv_endAttempt hs _ (Memory.commitTrim_wf hs.1 _ _)

/-- The record of an attempt within R51 and a mapping within R46 is within R45. -/
theorem Attempt.record_wf {a : Attempt} (ha : a.registersWf) {p : Payload} (hp : payloadWf p = true) :
    (a.record p).wf = true := by
  obtain ⟨hfmt, hdlen, hdt⟩ := ha
  simp [Record.wf, Attempt.record, hfmt, hdlen, hdt, hp]

theorem State.inv_publish (hs : s.heldWf) {a : Attempt} (ha : a.registersWf) {p : Payload} (hp : payloadWf p = true) :
    (s.publish a p).inv = true := by
  obtain ⟨hbuf, _, _, hout⟩ := hs
  have hcoherent : (s.publish a p).latestCoherent = true := by simp [State.latestCoherent]
  have hrecords : ∀ r ∈ (s.publish a p).out, r.wf = true := by
    intro r hr
    rcases List.mem_append.mp hr with hr | hr
    · exact hout r hr
    · rw [List.mem_singleton.mp hr]
      exact Attempt.record_wf ha hp
  exact (State.inv_iff _).mpr
    ⟨⟨Memory.commitTrim_wf hbuf _ _, ParseOutcome.statusLegal_code .recordOk, hcoherent, hrecords⟩, nofun⟩

end

/-! ### Mappings -/

/-- R316: a known key keeps its place among the keys, a new one is added after them. -/
theorem keys_insertEntry (m : Payload) (k : Text) (v : List Value) :
    (insertEntry m k v).map Entry.key =
      if k ∈ m.map Entry.key then m.map Entry.key else m.map Entry.key ++ [k] := by
  induction m with
  | nil => rfl
  | cons e rest ih =>
    unfold insertEntry
    split
    · next h => simp [h]
    · next h =>
      have hmem : k ∈ e.key :: rest.map Entry.key ↔ k ∈ rest.map Entry.key := by simp [Ne.symm h]
      simp only [List.map_cons, ih, hmem]
      split <;> rfl

theorem nodup_keys_insertEntry {m : Payload} (h : (m.map Entry.key).Nodup) (k : Text) (v : List Value) :
    ((insertEntry m k v).map Entry.key).Nodup := by
  rw [keys_insertEntry]
  split
  · exact h
  · next hk =>
    rw [List.nodup_append]
    refine ⟨h, List.nodup_singleton k, ?_⟩
    intro x hx y hy hxy
    rw [List.mem_singleton.mp hy] at hxy
    exact hk (hxy ▸ hx)

theorem mem_insertEntry {m : Payload} {k : Text} {v : List Value} {e : Entry} (h : e ∈ insertEntry m k v) :
    e ∈ m ∨ e.vals = v := by
  induction m with
  | nil => exact .inr (by rw [List.mem_singleton.mp h])
  | cons d rest ih =>
    unfold insertEntry at h
    split at h
    · rcases List.mem_cons.mp h with rfl | h
      · exact .inr rfl
      · exact .inl (List.mem_cons_of_mem _ h)
    · rcases List.mem_cons.mp h with rfl | h
      · exact .inl List.mem_cons_self
      · exact (ih h).imp_left (List.mem_cons_of_mem _)

theorem payloadWf_insertEntry {m : Payload} (hm : payloadWf m = true) (k : Text) {v : List Value}
    (hv : ∀ x ∈ v, x.wf = true) : payloadWf (insertEntry m k v) = true := by
  obtain ⟨hkeys, hvals⟩ := (payloadWf_iff m).mp hm
  refine (payloadWf_iff _).mpr ⟨nodup_keys_insertEntry hkeys k v, fun e he => ?_⟩
  rcases mem_insertEntry he with he | he
  · exact hvals e he
  · exact he ▸ hv

/-- R303: merging keeps a mapping within R46. -/
theorem payloadWf_mergeEntries {m p : Payload} (hm : payloadWf m = true)
    (hp : ∀ e ∈ p, ∀ v ∈ e.vals, v.wf = true) : payloadWf (mergeEntries m p) = true := by
  induction p generalizing m with
  | nil => exact hm
  | cons e rest ih =>
    have hhead := payloadWf_insertEntry hm e.key (hp e List.mem_cons_self)
    exact ih hhead fun d hd => hp d (List.mem_cons_of_mem _ hd)

/-- R314: the clock's text takes the place of the octets; the other values stay. -/
theorem clock_cases (key : Text) (vals : List Value) :
    clock key vals = vals ∨ ∃ b rest t, key = Config.params.clockKey ∧ vals = .octets b :: rest ∧
      clockText b = some t ∧ clock key vals = .text t :: rest := by
  unfold clock
  split
  · next b rest =>
    split
    · next hkey =>
      split
      · next t ht => exact .inr ⟨b, rest, t, hkey, rfl, ht, rfl⟩
      · exact .inl rfl
    · exact .inl rfl
  · exact .inl rfl

/-- R313: the one shape is scaled; any other list stays. -/
theorem class3_cases (vals : List Value) :
    class3 vals = vals ∨ ∃ k v k' e unit,
      vals = [.int k v, .seq (.cons (.int k' e) (.cons unit .nil))] ∧ class3 vals = [.scaled v e, unit] := by
  unfold class3
  split
  · next k v k' e unit => exact .inr ⟨k, v, k', e, unit, rfl, rfl⟩
  · exact .inl rfl

theorem clock_wf {vals : List Value} (h : ∀ v ∈ vals, v.wf = true) (key : Text) :
    ∀ v ∈ clock key vals, v.wf = true := by
  obtain e | ⟨b, rest, t, _, rfl, _, e⟩ := clock_cases key vals
  · rwa [e]
  · rw [e]
    exact List.forall_mem_cons.mpr ⟨rfl, fun v hv => h v (List.mem_cons_of_mem _ hv)⟩

theorem class3_wf {vals : List Value} (h : ∀ v ∈ vals, v.wf = true) : ∀ v ∈ class3 vals, v.wf = true := by
  obtain e | ⟨k, v, k', x, unit, rfl, e⟩ := class3_cases vals
  · rwa [e]
  · have hunit : unit.wf = true := by
      have hseq := h (.seq (.cons (.int k' x) (.cons unit .nil))) (by simp)
      simp only [Value.wf, ValueSeq.wf, Bool.and_eq_true] at hseq
      exact hseq.1.2.1
    rw [e]
    exact List.forall_mem_cons.mpr ⟨rfl, List.forall_mem_singleton.mpr hunit⟩

/-- R308: the one entry of a finished keyed composite is within R46. -/
theorem keyedPayload_wf (key : Text) {vals : List Value} (h : ∀ v ∈ vals, v.wf = true) :
    payloadWf (keyedPayload key vals) = true :=
  payloadWf_insertEntry (m := []) rfl key (class3_wf (clock_wf h key))

/-! ### Delivery -/

theorem ValueSeq.wf_ofList {vs : List Value} (h : ∀ v ∈ vs, v.wf = true) : (ValueSeq.ofList vs).wf = true := by
  induction vs with
  | nil => rfl
  | cons v vs ih =>
    obtain ⟨hv, hvs⟩ := List.forall_mem_cons.mp h
    simp [ValueSeq.ofList, ValueSeq.wf, hv, ih hvs]

/-- R352: at most 255 values within R44 make a value within R44. -/
theorem Value.wf_seq_ofList {vs : List Value} (h : ∀ v ∈ vs, v.wf = true) (hlen : vs.length ≤ 255) :
    (Value.seq (ValueSeq.ofList vs)).wf = true := by
  simp [Value.wf, ValueSeq.wf_ofList h, ValueSeq.toList_ofList, hlen]

theorem forall_wf_append_one {vs : List Value} (hvs : ∀ x ∈ vs, x.wf = true) {v : Value} (hv : v.wf = true) :
    ∀ x ∈ vs ++ [v], x.wf = true :=
  List.forall_mem_append.mpr ⟨hvs, List.forall_mem_singleton.mpr hv⟩

section
variable {s : State} {a : Attempt}

theorem State.inv_deliverPayload (hs : s.heldWf) (ha : a.registersWf) {ms : List MergeFrame} (hms : mergesWf ms)
    {p : Payload} (hp : payloadWf p = true) : (s.deliverPayload a p ms).inv = true := by
  induction ms generalizing p with
  | nil => exact State.inv_publish hs ha hp
  | cons m ms ih =>
    obtain ⟨hm, hrest⟩ := List.forall_mem_cons.mp hms
    have hmerged := payloadWf_mergeEntries hm ((payloadWf_iff p).mp hp).2
    unfold State.deliverPayload
    split
    · exact ih hrest hmerged
    · exact State.inv_resume hs ((Attempt.wf_iff _).mpr ⟨ha, rfl, List.forall_mem_cons.mpr ⟨hmerged, hrest⟩⟩)

theorem State.inv_resume_value (hs : s.heldWf) (ha : a.registersWf) (hms : mergesWf a.merges) {kv : Keyed}
    (hkv : ∀ v ∈ kv.vals, v.wf = true) {fs : List SeqFrame} (hfs : callsWf fs) :
    (s.resume { a with phase := .value kv fs }).inv = true :=
  State.inv_resume hs ((Attempt.wf_iff _).mpr ⟨ha, (Phase.wf_value kv fs).mpr ⟨hkv, hfs⟩, hms⟩)

theorem State.inv_deliverValue (hs : s.heldWf) (ha : a.registersWf) (hms : mergesWf a.merges) {kv : Keyed}
    (hkv : ∀ v ∈ kv.vals, v.wf = true) {fs : List SeqFrame} (hfs : callsWf fs) {v : Value} (hv : v.wf = true) :
    (s.deliverValue a kv v fs).inv = true := by
  induction fs generalizing v with
  | nil =>
    unfold State.deliverValue
    split
    · exact State.inv_deliverPayload hs ha hms (keyedPayload_wf _ (forall_wf_append_one hkv hv))
    · exact State.inv_resume_value hs ha hms (forall_wf_append_one hkv hv) hfs
  | cons f fs ih =>
    obtain ⟨hf, hrest⟩ := List.forall_mem_cons.mp hfs
    obtain ⟨hlen, hitems⟩ := (seqFrameWf_iff f).mp hf
    unfold State.deliverValue
    split
    · have hseq := Value.wf_seq_ofList (forall_wf_append_one hitems hv) (by simp; omega)
      exact ih hrest hseq
    · next n hn =>
      have hframe : seqFrameWf { left := n, items := f.items ++ [v] } = true :=
        (seqFrameWf_iff _).mpr ⟨by simp; omega, forall_wf_append_one hitems hv⟩
      exact State.inv_resume_value hs ha hms hkv (List.forall_mem_cons.mpr ⟨hframe, hrest⟩)

theorem State.inv_beginKeyed (hs : s.heldWf) (ha : a.registersWf) (hms : mergesWf a.merges) (key : Text) (count : Nat) :
    (s.beginKeyed a key count).inv = true := by
  unfold State.beginKeyed
  split
  · exact State.inv_deliverPayload hs ha hms (keyedPayload_wf key (List.forall_mem_nil _))
  · exact State.inv_resume_value hs ha hms (List.forall_mem_nil _) (List.forall_mem_nil _)

end

/-! ### Rows at their position -/

/-- Where an operation answers a next state, that state meets the invariant. -/
def Keeps (o : Host.Outcome State Fault Refusal) : Prop := ∀ t, o = .next t → t.inv = true

theorem Keeps.next {t : State} (h : t.inv = true) : Keeps (.next t) := by
  intro u hu
  cases hu
  exact h

section
variable {s : State} {a : Attempt} (hs : s.heldWf) (hw : a.wf = true)
include hs hw

theorem execFlag_keeps (h : s.standsAt a .flag) : Keeps (execFlag s) := by
  obtain ⟨hreg, _, hms⟩ := (Attempt.wf_iff a).mp hw
  rw [execFlag, State.atFlag_of h]
  refine .next ?_
  dsimp only
  split
  · exact State.inv_endInsufficient hs _
  · exact State.inv_resume hs ((Attempt.wf_iff _).mpr ⟨hreg, rfl, hms⟩)

theorem State.inv_setFormat {fmt : Nat} (hfmt : fmt ≤ 8) (seg : Bool) {dlen : Nat} (hdlen : dlen < 2048) (width : Nat) :
    (s.setFormat a fmt seg dlen width).inv = true := by
  obtain ⟨⟨_, _, hdt⟩, _, hms⟩ := (Attempt.wf_iff a).mp hw
  unfold State.setFormat
  split
  · refine State.inv_resume hs ((Attempt.wf_iff _).mpr ⟨⟨hfmt, ?_, hdt⟩, rfl, hms⟩)
    dsimp only
    omega
  · exact State.inv_endInsufficient hs _

theorem execFmtShort_keeps (h : s.standsAt a .format) (len : BitVec 7) : Keeps (execFmtShort len s) := by
  rw [execFmtShort, State.atFormat_of h]
  exact .next (State.inv_setFormat hs hw (Nat.zero_le _) _ (Nat.lt_trans len.isLt (by decide)) _)

theorem setExtFormat_keeps (h : s.standsAt a .format) {cls : Nat} (hcls : cls < 8) (seg : Bool) {len : Nat}
    (hlen : len < 2048) : Keeps (s.setExtFormat cls seg len) := by
  rw [State.setExtFormat, State.atFormat_of h]
  exact .next (State.inv_setFormat hs hw (by omega) seg hlen 2)

theorem addressStep_keeps (ha : s.attempt = some a) (hp : a.phase.position = .address) (b : Byte) (last : Bool) :
    Keeps (s.addressStep b last) := by
  obtain ⟨hreg, _, hms⟩ := (Attempt.wf_iff a).mp hw
  obtain ⟨n, h | h⟩ := standsAt_address ha hp
  · rw [State.addressStep, State.atAddress_client h]
    refine .next ?_
    dsimp only
    split <;> exact State.inv_resume hs ((Attempt.wf_iff _).mpr ⟨hreg, rfl, hms⟩)
  · rw [State.addressStep, State.atAddress_server h]
    refine .next ?_
    dsimp only
    split <;> exact State.inv_resume hs ((Attempt.wf_iff _).mpr ⟨hreg, rfl, hms⟩)

theorem State.inv_checkFrameCrc : (s.checkFrameCrc a).inv = true := by
  obtain ⟨hreg, _, hms⟩ := (Attempt.wf_iff a).mp hw
  rcases s.checkFrameCrc_cases a with e | e | ⟨fcs, c, e⟩ <;> rw [e]
  · exact State.inv_endResync hs _ _
  · exact State.inv_raiseOob hs
  · exact State.inv_resume hs ((Attempt.wf_iff _).mpr ⟨hreg, rfl, hms⟩)

theorem execCtrl_keeps (h : s.standsAt a .control) (b : Byte) : Keeps (execCtrl b s) := by
  rw [execCtrl_of_standsAt h]
  refine .next ?_
  unfold State.checkHeaderCrc
  dsimp only
  split
  · exact State.inv_raiseOob hs
  · split
    · exact State.inv_checkFrameCrc hs ((Attempt.wf_iff _).mpr ((Attempt.wf_iff a).mp hw))
    · exact State.inv_endResync hs _ _

theorem State.inv_dateTimeField {len : Nat} (hlen : len ≤ 255) : (s.dateTimeField a len).inv = true := by
  obtain ⟨⟨hfmt, hdlen, _⟩, _, _⟩ := (Attempt.wf_iff a).mp hw
  unfold State.dateTimeField
  split
  · exact State.inv_raiseOob hs
  · next data hdata =>
    have hdt : data.length ≤ 255 := (memRead_length hdata).trans_le hlen
    exact State.inv_resume hs ((Attempt.wf_iff _).mpr ⟨⟨hfmt, hdlen, hdt⟩, rfl, List.forall_mem_nil _⟩)

theorem dateTimeMarker_keeps (ha : s.attempt = some a) (hp : a.phase.position = .dateTime) {len : Nat}
    (hlen : len ≤ 255) : Keeps (s.atDateTime fun a _ => s.dateTimeField a len) := by
  obtain ⟨i, h⟩ := standsAt_dateTime ha hp
  rw [State.atDateTime_of h]
  exact .next (State.inv_dateTimeField hs hw hlen)

theorem dateTimeSkip_keeps (ha : s.attempt = some a) (hp : a.phase.position = .dateTime) (b : Byte) :
    Keeps (s.dateTimeSkip b) := by
  obtain ⟨hreg, _, hms⟩ := (Attempt.wf_iff a).mp hw
  obtain ⟨i, h⟩ := standsAt_dateTime ha hp
  rw [State.dateTimeSkip, State.atDateTime_of h]
  refine .next ?_
  split
  · exact State.inv_resume hs ((Attempt.wf_iff _).mpr ⟨hreg, rfl, hms⟩)
  · exact State.inv_dateTimeField hs hw (Nat.le_of_lt_succ b.isLt)

theorem execPdNull_keeps (h : s.standsAt a .payload) : Keeps (execPdNull s) := by
  obtain ⟨hreg, _, hms⟩ := (Attempt.wf_iff a).mp hw
  rw [execPdNull, State.atPayload_of h]
  exact .next (State.inv_deliverPayload (a := { a with c := a.c + 1 }) hs hreg hms (p := []) rfl)

theorem payloadComposite_keeps (h : s.standsAt a .payload) : Keeps s.payloadComposite := by
  obtain ⟨hreg, _, hms⟩ := (Attempt.wf_iff a).mp hw
  rw [State.payloadComposite, State.atPayload_of h]
  refine .next ?_
  split
  · exact State.inv_raiseOob hs
  · split
    · exact State.inv_deliverPayload (a := { a with c := a.c + 2 }) hs hreg hms (p := []) rfl
    · exact State.inv_resume hs ((Attempt.wf_iff _).mpr ⟨hreg, rfl, hms⟩)

theorem payloadMerge_keeps (ha : s.attempt = some a) (hp : a.phase.position = .peek) : Keeps s.payloadMerge := by
  obtain ⟨hreg, _, hms⟩ := (Attempt.wf_iff a).mp hw
  obtain ⟨more, h⟩ := standsAt_peek ha hp
  rw [State.payloadMerge_of h]
  exact .next (State.inv_resume hs ((Attempt.wf_iff _).mpr ⟨hreg, rfl, List.forall_mem_cons.mpr ⟨rfl, hms⟩⟩))

theorem payloadStringKey_keeps (ha : s.attempt = some a) (hp : a.phase.position = .peek) (keyOf : List Byte → Text) :
    Keeps (s.payloadStringKey keyOf) := by
  obtain ⟨hreg, _, hms⟩ := (Attempt.wf_iff a).mp hw
  obtain ⟨more, h⟩ := standsAt_peek ha hp
  rw [State.payloadStringKey, State.atPeek_of h]
  refine .next ?_
  split
  · exact State.inv_raiseOob hs
  · next bs _ => exact State.inv_beginKeyed (a := { a with c := a.c + 2 + bs.length }) hs hreg hms _ _

theorem payloadDefaultKey_keeps (ha : s.attempt = some a) (hp : a.phase.position = .peek) :
    Keeps s.payloadDefaultKey := by
  obtain ⟨hreg, _, hms⟩ := (Attempt.wf_iff a).mp hw
  obtain ⟨more, h⟩ := standsAt_peek ha hp
  rw [State.payloadDefaultKey_of h]
  exact .next (State.inv_beginKeyed hs hreg hms _ _)

/-- A value within R44 that a row has read, delivered from further on. -/
theorem State.inv_deliverValue_at {kv : Keyed} {calls : List SeqFrame} (h : s.standsAt a (.value kv calls)) (c : Nat)
    {v : Value} (hv : v.wf = true) : (s.deliverValue { a with c := c } kv v calls).inv = true := by
  obtain ⟨hreg, hphase, hms⟩ := (Attempt.wf_iff a).mp hw
  rw [h.2, Phase.wf_value] at hphase
  exact State.inv_deliverValue (a := { a with c := c }) hs hreg hms hphase.1 hphase.2 hv

theorem execVd0_keeps (ha : s.attempt = some a) (hp : a.phase.position = .value) : Keeps (execVd0 s) := by
  obtain ⟨kv, calls, h⟩ := standsAt_value ha hp
  rw [execVd0, State.atValue_of h]
  exact .next (State.inv_deliverValue_at hs hw h _ rfl)

theorem valueOfBytes_keeps (ha : s.attempt = some a) (hp : a.phase.position = .value) {n : Nat} {mk : List Byte → Value}
    (hmk : ∀ bs, bs.length = n → (mk bs).wf = true) : Keeps (s.valueOfBytes n mk) := by
  obtain ⟨kv, calls, h⟩ := standsAt_value ha hp
  rw [State.valueOfBytes, State.atValue_of h]
  refine .next ?_
  split
  · exact State.inv_raiseOob hs
  · next bs hbs => exact State.inv_deliverValue_at hs hw h _ (hmk bs (memRead_length hbs))

theorem valueInt_keeps (ha : s.attempt = some a) (hp : a.phase.position = .value) (k : IntKind) :
    Keeps (s.valueInt k) :=
  valueOfBytes_keeps hs hw ha hp fun _ hbs => intInRange_intOfBytes hbs

theorem valueOfByte_keeps (ha : s.attempt = some a) (hp : a.phase.position = .value) {mk : Byte → Value}
    (hmk : ∀ b, (mk b).wf = true) : Keeps (s.valueOfByte mk) := by
  obtain ⟨kv, calls, h⟩ := standsAt_value ha hp
  rw [State.valueOfByte, State.atValue_of h]
  refine .next ?_
  split
  · exact State.inv_raiseOob hs
  · next b _ => exact State.inv_deliverValue_at hs hw h _ (hmk b)

theorem valueString_keeps (ha : s.attempt = some a) (hp : a.phase.position = .value) {mk : List Byte → Value}
    (hmk : ∀ bs, bs.length ≤ 255 → (mk bs).wf = true) : Keeps (s.valueString mk) := by
  obtain ⟨kv, calls, h⟩ := standsAt_value ha hp
  rw [State.valueString, State.atValue_of h]
  refine .next ?_
  split
  · exact State.inv_raiseOob hs
  · next bs hbs => exact State.inv_deliverValue_at hs hw h _ (hmk bs (readString_eq_some hbs).2)

theorem valueComposite_keeps (ha : s.attempt = some a) (hp : a.phase.position = .value) : Keeps s.valueComposite := by
  obtain ⟨kv, calls, h⟩ := standsAt_value ha hp
  rw [State.valueComposite, State.atValue_of h]
  refine .next ?_
  split
  · exact State.inv_raiseOob hs
  · next n _ =>
    split
    · exact State.inv_deliverValue_at hs hw h _ rfl
    · next left hleft =>
      obtain ⟨hreg, hphase, hms⟩ := (Attempt.wf_iff a).mp hw
      rw [h.2, Phase.wf_value] at hphase
      have hlen := n.isLt
      have hframe : seqFrameWf { left := left, items := [] } = true :=
        (seqFrameWf_iff _).mpr ⟨by simp; omega, List.forall_mem_nil _⟩
      exact State.inv_resume_value (a := { a with c := a.c + 2 }) hs hreg hms hphase.1
        (List.forall_mem_cons.mpr ⟨hframe, hphase.2⟩)

omit hw in
theorem unsupportedFormat_keeps (h : s.standsAt a .format) : Keeps s.unsupportedFormat := by
  rw [State.unsupportedFormat, State.atFormat_of h]
  exact .next (State.inv_endResync hs _ _)

omit hw in
theorem payloadFail_keeps (h : s.standsAt a .payload) : Keeps s.payloadFail := by
  rw [State.payloadFail_of h]
  exact .next (State.inv_raiseFail hs _)

omit hw in
theorem valueFail_keeps (ha : s.attempt = some a) (hp : a.phase.position = .value) : Keeps s.valueFail := by
  obtain ⟨kv, calls, h⟩ := standsAt_value ha hp
  rw [State.valueFail_of h]
  exact .next (State.inv_raiseFail hs _)

/-! ### Every row, every attempt -/

/-- A byte row at its position keeps the invariant. -/
theorem execByteRow_keeps {i : Instr} {w : List Byte} (ha : s.attempt = some a)
    (he : encode i = .bytes a.phase.position w) : Keeps (execByteRow i s) := by
  have hpos : ∀ p w', encode i = .bytes p w' → a.phase.position = p := by
    intro p w' hi
    rw [hi] at he
    cases he
    rfl
  cases i
  case push | readLatest | reset => cases he
  all_goals have hp := hpos _ _ rfl
  case flag => exact execFlag_keeps hs hw (standsAt_flag ha hp)
  case fmtShort len => exact execFmtShort_keeps hs hw (standsAt_format ha hp) len
  case fmtExt80BF cls seg len =>
    have := cls.isLt
    exact setExtFormat_keeps hs hw (standsAt_format ha hp) (by omega) seg len.isLt
  case fmtExtC0DF cls seg len =>
    have := cls.isLt
    exact setExtFormat_keeps hs hw (standsAt_format ha hp) (by omega) seg len.isLt
  case fmtExtE0EF seg len => exact setExtFormat_keeps hs hw (standsAt_format ha hp) (by decide) seg len.isLt
  case fmtExtF0F0 len =>
    exact setExtFormat_keeps hs hw (standsAt_format ha hp) (by decide) false (Nat.lt_trans len.isLt (by decide))
  case fmtUnsupF1F1 | fmtUnsupF2F3 | fmtUnsupF4F7 | fmtUnsupF8FF =>
    exact unsupportedFormat_keeps hs (standsAt_format ha hp)
  case addrMore | addrLast => exact addressStep_keeps hs hw ha hp _ _
  case ctrl b => exact execCtrl_keeps hs hw (standsAt_control ha hp) b
  case dtMarkerEmpty | dtMarker12 => exact dateTimeMarker_keeps hs hw ha hp (by decide)
  case dtSkip0101 | dtSkip0203 | dtSkip0407 | dtSkip080B | dtSkip0D0D | dtSkip0E0F | dtSkip101F | dtSkip203F
      | dtSkip407F | dtSkip80FF =>
    exact dateTimeSkip_keeps hs hw ha hp _
  case pdNull => exact execPdNull_keeps hs hw (standsAt_payload ha hp)
  case pdArray | pdStruct => exact payloadComposite_keeps hs hw (standsAt_payload ha hp)
  case pdCompact | pdOther0303 | pdOther0407 | pdOther080F | pdOther1011 | pdOther1212 | pdOther1417 | pdOther181F
      | pdOther203F | pdOther407F | pdOther80FF =>
    exact payloadFail_keeps hs (standsAt_payload ha hp)
  case pdPeekMergeArray | pdPeekMergeStruct | pdPeekMergeCompact => exact payloadMerge_keeps hs hw ha hp
  case pdPeekVisibleKey | pdPeekObisKey => exact payloadStringKey_keeps hs hw ha hp _
  case pdPeekDefaultKey0000 | pdPeekDefaultKey0303 | pdPeekDefaultKey0407 | pdPeekDefaultKey0808 | pdPeekDefaultKey0B0B
      | pdPeekDefaultKey0C0F | pdPeekDefaultKey1011 | pdPeekDefaultKey1212 | pdPeekDefaultKey1417
      | pdPeekDefaultKey181F | pdPeekDefaultKey203F | pdPeekDefaultKey407F | pdPeekDefaultKey80FF =>
    exact payloadDefaultKey_keeps hs hw ha hp
  case vd0 => exact execVd0_keeps hs hw ha hp
  case vd1 | vd2 => exact valueComposite_keeps hs hw ha hp
  case vd3 | vd4 | vd13 | vd22 => exact valueOfByte_keeps hs hw ha hp fun _ => rfl
  case vd5 | vd6 | vd15 | vd16 | vd17 | vd18 | vd20 | vd21 => exact valueInt_keeps hs hw ha hp _
  case vd9 | vd10 | vd12 => exact valueString_keeps hs hw ha hp fun _ hbs => decide_eq_true hbs
  case vd25 | vd26 | vd27 => exact valueOfBytes_keeps hs hw ha hp fun _ hbs => decide_eq_true hbs
  case vd7 | vd8 | vd11 | vd14 | vd19 | vd23 | vd24 | vdOther1C1F | vdOther203F | vdOther407F | vdOther80FF =>
    exact valueFail_keeps hs ha hp

/-- One step of an attempt keeps the invariant. -/
theorem attemptStep_keeps : Keeps (s.attemptStep a) := by
  unfold State.attemptStep
  cases hf : s.fetch a with
  | noFlag => exact .next (State.inv_endInsufficient hs _)
  | outOfBounds => exact .next (State.inv_raiseOob hs)
  | instr i b =>
    obtain ⟨_, _, hb, w, he⟩ := State.fetch_instr hf
    have hwb : b.wf = true := by
      rw [hb]
      exact hw
    have hphase : b.phase = a.phase := by rw [hb]
    exact execByteRow_keeps (s := s.resume b) hs hwb rfl (hphase ▸ he)

end

/-- An attempt keeps the invariant to its end. -/
theorem runAttempt_keeps (n : Nat) {s : State} (hs : s.inv = true) : Keeps (runAttempt n s) := by
  induction n generalizing s with
  | zero =>
    unfold runAttempt
    split
    · exact .next hs
    · intro t ht
      contradiction
  | succ n ih =>
    unfold runAttempt
    split
    · exact .next hs
    · next a ha =>
      obtain ⟨hheld, hwf⟩ := (State.inv_iff s).mp hs
      obtain ⟨t, ht, _⟩ := s.attemptStep_cases (a := a)
      rw [ht]
      exact ih (attemptStep_keeps hheld (hwf a ha) t ht)

/-! ### The host transactions -/

section
variable {s : State} (hs : s.heldWf)
include hs

/-- The state in which a PUSH's attempt begins meets the invariant. -/
theorem State.inv_beginPush {chunk : List Byte} (hc : chunk.length ≤ Config.params.maxChunk) :
    (s.beginPush chunk).inv = true := by
  obtain ⟨_, hrest⟩ := hs
  refine (State.inv_iff _).mpr ⟨⟨Memory.receive_wf _ hc, hrest⟩, fun a ha => ?_⟩
  cases ha
  decide

theorem execPush_keeps (chunk : List Byte) : Keeps (execPush chunk s) := by
  intro t ht
  obtain ⟨hidle, hc⟩ := idle_and_fits_of_execPush ht
  have hw : chunkWellFormed chunk = true := decide_eq_true hc
  rw [execPush, State.whenIdle_of_idle hidle, if_pos hw] at ht
  exact runAttempt_keeps _ (State.inv_beginPush hs hc) t ht

theorem exec_toInstr_keeps (hidle : s.attempt = none) (r : HostRequest) : Keeps (exec r.toInstr s) := by
  obtain ⟨hbuf, hstatus, hlatest, hout⟩ := hs
  have hnone : ∀ u : State, u.attempt = none → ∀ a, u.attempt = some a → a.wf = true := by
    intro u hu a ha
    rw [hu] at ha
    contradiction
  cases r with
  | push chunk => exact execPush_keeps ⟨hbuf, hstatus, hlatest, hout⟩ chunk
  | readLatest =>
    show Keeps (execReadLatest s)
    rw [execReadLatest, State.whenIdle_of_idle hidle]
    exact .next ((State.inv_iff _).mpr ⟨⟨hbuf, hstatus, hlatest, hout⟩, hnone _ hidle⟩)
  | reset =>
    show Keeps (execReset s)
    rw [execReset, State.whenIdle_of_idle hidle]
    exact .next ((State.inv_iff _).mpr ⟨⟨Memory.clear_wf, rfl, rfl, hout⟩, hnone _ hidle⟩)

end

/-! ### The obligations -/

/-- Settles O1: `State.reset` is written with these values. -/
theorem resetLeavesSpecState : Obligations.ResetLeavesSpecState :=
  ⟨rfl, rfl, rfl, rfl, rfl, rfl, rfl, rfl⟩

/-- Settles O2: with nothing held and no attempt each part of the invariant is a check of one value. -/
theorem resetMeetsInvariant : Obligations.ResetMeetsInvariant := by
  refine (State.inv_iff _).mpr ⟨⟨Memory.clear_wf, rfl, rfl, List.forall_mem_nil _⟩, nofun⟩

/-- Settles O3: inside an attempt a step is a step of the attempt; an idle block holds its state or performs a request. -/
theorem stepKeepsInvariant : Obligations.StepKeepsInvariant := by
  intro s t hs ht
  obtain ⟨hheld, hwf⟩ := (State.inv_iff s).mp hs
  cases ha : s.attempt with
  | some a =>
    rw [step_of_running ha] at ht
    exact attemptStep_keeps hheld (hwf a ha) t ht
  | none =>
    cases hin : s.inbox with
    | nil =>
      rw [step_of_waiting ha hin] at ht
      cases ht
      exact hs
    | cons r rest =>
      rw [step_of_request ha hin] at ht
      exact exec_toInstr_keeps (s := { s with inbox := rest }) hheld ha r t ht

end Sys2Proof.Machine
end

section
/-! PROOFS. The encoding (30_encoding.md R120-R134): the decoder inverts the encoder on every instruction, the encoder
inverts the decoder on every byte, and the rows of one decode position are disjoint. -/

namespace Sys2Proof

-- Each evaluation over all bytes waits for the kernel: one after another they need one thread, not one each.
set_option Elab.async false

/-! ### The extended frame-format form -/

/-- The first byte of the extended form, from its class, its segmentation bit and the length's high bits (R122). -/
def extByte (cls : BitVec 3) (seg : Bool) (top : BitVec 3) : Byte :=
  (1#1 ++ cls ++ BitVec.ofBool seg ++ top : BitVec (1 + 3 + 1 + 3))

theorem extFirstByte_eq (cls : BitVec 3) (seg : Bool) (len : BitVec 11) :
    extFirstByte cls seg len = extByte cls seg (len.extractLsb' 8 3) := rfl

/-- The fields of the extended form are read back from its first byte (R122). -/
theorem extByte_fields (cls : BitVec 3) (seg : Bool) (top : BitVec 3) :
    (extByte cls seg top).extractLsb' 4 3 = cls ∧ (extByte cls seg top).getLsbD 3 = seg ∧
      (extByte cls seg top).setWidth 3 = top := by
  revert cls seg top
  decide +kernel

/-- A byte with its top bit set is the extended form of its own fields. -/
theorem extByte_of_byte {b : Byte} (h : 0x80 ≤ b.toNat) : extByte (b.extractLsb' 4 3) (b.getLsbD 3) (b.setWidth 3) = b := by
  revert b
  decide +kernel

/-- R130: the length in the arithmetic of the spec. -/
theorem toNat_extLength (b1 b2 : Byte) : (extLength b1 b2).toNat = b1.toNat % 8 * 256 + b2.toNat := by
  rw [extLength, BitVec.toNat_append, ← Nat.shiftLeft_add_eq_or_of_lt b2.isLt, Nat.shiftLeft_eq, BitVec.toNat_setWidth]

/-- R130: the length's high bits are those of the first byte. -/
theorem extLength_top (b1 b2 : Byte) : (extLength b1 b2).extractLsb' 8 3 = b1.setWidth 3 := by
  have := b2.isLt
  apply BitVec.eq_of_toNat_eq
  rw [BitVec.extractLsb'_toNat, Nat.shiftRight_eq_div_pow, toNat_extLength, BitVec.toNat_setWidth]
  omega

/-- R130: the length's low byte is the second byte. -/
theorem extLength_low (b1 b2 : Byte) : (extLength b1 b2).setWidth 8 = b2 := by
  have := b2.isLt
  apply BitVec.eq_of_toNat_eq
  rw [BitVec.toNat_setWidth, toNat_extLength]
  omega

/-- R130: a length is assembled from the two bytes that carry it. -/
theorem extLength_split {b1 : Byte} {len : BitVec 11} (h : b1.setWidth 3 = len.extractLsb' 8 3) :
    extLength b1 (len.setWidth 8) = len := by
  have := len.isLt
  have htop : b1.toNat % 8 = len.toNat / 256 % 8 := by
    have hnat := congrArg BitVec.toNat h
    rwa [BitVec.toNat_setWidth, BitVec.extractLsb'_toNat, Nat.shiftRight_eq_div_pow] at hnat
  apply BitVec.eq_of_toNat_eq
  rw [toNat_extLength, htop, BitVec.toNat_setWidth]
  omega

/-- What the extended form of two bytes is read as, by the class in its first byte (R122). -/
def extInstr (b1 b2 : Byte) : Instr :=
  if rowMatches b1 0xC0#8 0x80#8 then .fmtExt80BF (b1.extractLsb' 4 2) (b1.getLsbD 3) (extLength b1 b2)
  else if rowMatches b1 0xE0#8 0xC0#8 then .fmtExtC0DF (b1.extractLsb' 4 1) (b1.getLsbD 3) (extLength b1 b2)
  else if rowMatches b1 0xF0#8 0xE0#8 then .fmtExtE0EF (b1.getLsbD 3) (extLength b1 b2)
  else .fmtExtF0F0 b2

/-- A byte from 0x80 to 0xF0 is in no row of one byte. -/
theorem not_single_of_extended {b : Byte} (hlo : 0x80 ≤ b.toNat) (hhi : b.toNat ≤ 0xF0) :
    rowMatches b 0x80#8 0x00#8 = false ∧ rowMatches b 0xFF#8 0xF1#8 = false ∧ rowMatches b 0xFE#8 0xF2#8 = false ∧
      rowMatches b 0xFC#8 0xF4#8 = false ∧ rowMatches b 0xF8#8 0xF8#8 = false := by
  revert b
  decide +kernel

/-- R131: a byte from 0x80 to 0xF0 takes a second one. -/
theorem decodeFormat_extended {b1 : Byte} (hlo : 0x80 ≤ b1.toNat) (hhi : b1.toNat ≤ 0xF0) (b2 : Byte)
    (rest : List Byte) : decodeFormat b1 (b2 :: rest) = .ok (extInstr b1 b2, rest) := by
  obtain ⟨h1, h2, h3, h4, h5⟩ := not_single_of_extended hlo hhi
  simp only [decodeFormat, extInstr, h1, h2, h3, h4, h5, Bool.false_eq_true, if_false]
  split
  · rfl
  · split
    · rfl
    · split <;> rfl

/-- R82, R131: where the second byte does not exist the read is out of bounds. -/
theorem decodeFormat_extended_nil {b1 : Byte} (hlo : 0x80 ≤ b1.toNat) (hhi : b1.toNat ≤ 0xF0) :
    decodeFormat b1 [] = .error .endOfBuffer := by
  obtain ⟨h1, h2, h3, h4, h5⟩ := not_single_of_extended hlo hhi
  simp only [decodeFormat, h1, h2, h3, h4, h5, Bool.false_eq_true, if_false]

/-! ### The one-byte frame-format forms -/

/-- What a frame-format byte that stands alone is read as (R121, R123). -/
def singleInstr (b : Byte) : Instr :=
  if rowMatches b 0x80#8 0x00#8 then .fmtShort (b.setWidth 7)
  else if rowMatches b 0xFF#8 0xF1#8 then .fmtUnsupF1F1
  else if rowMatches b 0xFE#8 0xF2#8 then .fmtUnsupF2F3 (b.setWidth 1)
  else if rowMatches b 0xFC#8 0xF4#8 then .fmtUnsupF4F7 (b.setWidth 2)
  else .fmtUnsupF8FF (b.setWidth 3)

/-- A byte below 0x80 or above 0xF0 is in a row of one byte. -/
theorem single_of_not_extended {b : Byte} (h : b.toNat < 0x80 ∨ 0xF0 < b.toNat)
    (h1 : ¬ rowMatches b 0x80#8 0x00#8 = true) (h2 : ¬ rowMatches b 0xFF#8 0xF1#8 = true)
    (h3 : ¬ rowMatches b 0xFE#8 0xF2#8 = true) (h4 : ¬ rowMatches b 0xFC#8 0xF4#8 = true) :
    rowMatches b 0xF8#8 0xF8#8 = true := by
  revert b
  decide +kernel

/-- R131: a byte below 0x80 or above 0xF0 stands alone. -/
theorem decodeFormat_single {b : Byte} (h : b.toNat < 0x80 ∨ 0xF0 < b.toNat) (rest : List Byte) :
    decodeFormat b rest = .ok (singleInstr b, rest) := by
  unfold decodeFormat singleInstr
  split
  · rfl
  · next h1 =>
    split
    · rfl
    · next h2 =>
      split
      · rfl
      · next h3 =>
        split
        · rfl
        · next h4 => rw [if_pos (single_of_not_extended h h1 h2 h3 h4)]

/-! ### Decoding what was encoded -/

/-- Which of the extended rows a first byte is in. -/
theorem extInstr_80BF {b1 : Byte} (b2 : Byte) (h : b1 &&& 0xC0#8 = 0x80#8) :
    extInstr b1 b2 = .fmtExt80BF (b1.extractLsb' 4 2) (b1.getLsbD 3) (extLength b1 b2) :=
  if_pos (beq_iff_eq.mpr h)

theorem extInstr_C0DF {b1 : Byte} (b2 : Byte) (h : b1 &&& 0xE0#8 = 0xC0#8) :
    extInstr b1 b2 = .fmtExtC0DF (b1.extractLsb' 4 1) (b1.getLsbD 3) (extLength b1 b2) := by
  have h1 : ¬ rowMatches b1 0xC0#8 0x80#8 = true := by
    revert b1
    decide +kernel
  exact (if_neg h1).trans (if_pos (beq_iff_eq.mpr h))

theorem extInstr_E0EF {b1 : Byte} (b2 : Byte) (h : b1 &&& 0xF0#8 = 0xE0#8) :
    extInstr b1 b2 = .fmtExtE0EF (b1.getLsbD 3) (extLength b1 b2) := by
  have h1 : ¬ rowMatches b1 0xC0#8 0x80#8 = true ∧ ¬ rowMatches b1 0xE0#8 0xC0#8 = true := by
    revert b1
    decide +kernel
  exact (if_neg h1.1).trans ((if_neg h1.2).trans (if_pos (beq_iff_eq.mpr h)))

/-- A byte of an extended row is from 0x80 to 0xEF. -/
theorem extended_bounds {b mask pat : Byte} (h : b &&& mask = pat)
    (hrow : (mask, pat) ∈ [(0xC0#8, 0x80#8), (0xE0#8, 0xC0#8), (0xF0#8, 0xE0#8)]) :
    0x80 ≤ b.toNat ∧ b.toNat ≤ 0xF0 := by
  simp only [List.mem_cons, Prod.mk.injEq, List.not_mem_nil, or_false] at hrow
  rcases hrow with ⟨rfl, rfl⟩ | ⟨rfl, rfl⟩ | ⟨rfl, rfl⟩ <;> revert b <;> decide +kernel

section
variable (seg : Bool) (len : BitVec 11)

theorem decode_fmtExt80BF (cls : BitVec 2) :
    decodeFormat (extFirstByte (0#1 ++ cls) seg len) [len.setWidth 8] = .ok (.fmtExt80BF cls seg len, []) := by
  have hrow := Laws.RowBits.fmtExt80BF cls seg len
  obtain ⟨hlo, hhi⟩ := extended_bounds hrow (by decide)
  have hcls : ∀ (c : BitVec 2) (s : Bool) (t : BitVec 3), (extByte (0#1 ++ c) s t).extractLsb' 4 2 = c := by
    decide +kernel
  rw [decodeFormat_extended hlo hhi, extInstr_80BF _ hrow, extFirstByte_eq, hcls, (extByte_fields _ _ _).2.1,
    extLength_split (extByte_fields _ _ _).2.2]

theorem decode_fmtExtC0DF (cls : BitVec 1) :
    decodeFormat (extFirstByte (2#2 ++ cls) seg len) [len.setWidth 8] = .ok (.fmtExtC0DF cls seg len, []) := by
  have hrow := Laws.RowBits.fmtExtC0DF cls seg len
  obtain ⟨hlo, hhi⟩ := extended_bounds hrow (by decide)
  have hcls : ∀ (c : BitVec 1) (s : Bool) (t : BitVec 3), (extByte (2#2 ++ c) s t).extractLsb' 4 1 = c := by
    decide +kernel
  rw [decodeFormat_extended hlo hhi, extInstr_C0DF _ hrow, extFirstByte_eq, hcls, (extByte_fields _ _ _).2.1,
    extLength_split (extByte_fields _ _ _).2.2]

theorem decode_fmtExtE0EF :
    decodeFormat (extFirstByte 6#3 seg len) [len.setWidth 8] = .ok (.fmtExtE0EF seg len, []) := by
  have hrow := Laws.RowBits.fmtExtE0EF seg len
  obtain ⟨hlo, hhi⟩ := extended_bounds hrow (by decide)
  rw [decodeFormat_extended hlo hhi, extInstr_E0EF _ hrow, extFirstByte_eq, (extByte_fields _ _ _).2.1,
    extLength_split (extByte_fields _ _ _).2.2]

end

/-- Decoding what an instruction is written as gives it back. The rows without an operand are one evaluation each, the rows
with low bits one for each value of them; the extended rows carry their own lemma. -/
theorem decode_encode (i : Instr) : decode (encode i) = .ok (i, []) := by
  cases i
  case push | readLatest | reset | ctrl => rfl
  case fmtExt80BF cls seg len => exact decode_fmtExt80BF seg len cls
  case fmtExtC0DF cls seg len => exact decode_fmtExtC0DF seg len cls
  case fmtExtE0EF seg len => exact decode_fmtExtE0EF seg len
  case fmtExtF0F0 len => exact decodeFormat_extended (b1 := 0xF0#8) (by decide) (by decide) len []
  case addrMore hi | addrLast hi =>
    revert hi
    decide +kernel
  case fmtShort low | fmtUnsupF2F3 low | fmtUnsupF4F7 low | fmtUnsupF8FF low
      | dtSkip0203 low | dtSkip0407 low | dtSkip080B low | dtSkip0E0F low | dtSkip101F low | dtSkip203F low
      | dtSkip407F low | dtSkip80FF low | pdOther0407 low | pdOther080F low | pdOther1011 low | pdOther1417 low
      | pdOther181F low | pdOther203F low | pdOther407F low | pdOther80FF low | pdPeekDefaultKey0407 low
      | pdPeekDefaultKey0C0F low | pdPeekDefaultKey1011 low | pdPeekDefaultKey1417 low | pdPeekDefaultKey181F low
      | pdPeekDefaultKey203F low | pdPeekDefaultKey407F low | pdPeekDefaultKey80FF low | vdOther1C1F low
      | vdOther203F low | vdOther407F low | vdOther80FF low =>
    revert low
    decide +kernel
  all_goals decide

/-! ### Encoding what was decoded -/

/-- What one byte is read as at a position where one byte is an instruction. -/
def byteInstr : Position → Byte → Instr
  | .flag, _ => .flag
  | .format, b => singleInstr b
  | .address, b => decodeAddress b
  | .control, b => .ctrl b
  | .dateTime, b => decodeDateTime b
  | .payload, b => decodePayload b
  | .peek, b => decodePeek b
  | .value, b => decodeValue b

/-- R132: away from the flag and the frame-format positions one byte is one instruction. -/
theorem decodeAt_of_byte {p : Position} (hflag : p ≠ .flag) (hformat : p ≠ .format) (b : Byte) (rest : List Byte) :
    decodeAt p (b :: rest) = .ok (byteInstr p b, rest) := by
  cases p
  case flag | format => contradiction
  all_goals rfl

/-- The extended form is written as the two bytes that it was read from. -/
theorem encode_extInstr {b1 : Byte} (hlo : 0x80 ≤ b1.toNat) (hhi : b1.toNat ≤ 0xF0) (b2 : Byte) :
    encode (extInstr b1 b2) = .bytes .format [b1, b2] := by
  have hfirst : ∀ cls : BitVec 3, cls = b1.extractLsb' 4 3 →
      extFirstByte cls (b1.getLsbD 3) (extLength b1 b2) = b1 := by
    rintro _ rfl
    rw [extFirstByte_eq, extLength_top, extByte_of_byte hlo]
  unfold extInstr
  split
  · next hrow =>
    have hcls : 0#1 ++ b1.extractLsb' 4 2 = b1.extractLsb' 4 3 := by
      clear hfirst
      revert b1
      decide +kernel
    rw [encode, hfirst _ hcls, extLength_low]
  · split
    · next hrow =>
      have hcls : 2#2 ++ b1.extractLsb' 4 1 = b1.extractLsb' 4 3 := by
        clear hfirst
        revert b1
        decide +kernel
      rw [encode, hfirst _ hcls, extLength_low]
    · split
      · next hrow =>
        have hcls : 6#3 = b1.extractLsb' 4 3 := by
          clear hfirst
          revert b1
          decide +kernel
        rw [encode, hfirst _ hcls, extLength_low]
      · have hb : b1 = 0xF0#8 := by
          clear hfirst
          revert b1
          decide +kernel
        rw [hb]
        rfl

/-! ### The rows of a position -/

/-- The mask and match of the rows of spec/opcode_table.json at a decode position. -/
def rowsAt : Position → List (Byte × Byte)
  | .flag => [(0xFF#8, 0x7E#8)]
  | .format =>
    [(0x80#8, 0x00#8), (0xC0#8, 0x80#8), (0xE0#8, 0xC0#8), (0xF0#8, 0xE0#8), (0xFF#8, 0xF0#8), (0xFF#8, 0xF1#8),
     (0xFE#8, 0xF2#8), (0xFC#8, 0xF4#8), (0xF8#8, 0xF8#8)]
  | .address => [(0x01#8, 0x00#8), (0x01#8, 0x01#8)]
  | .control => [(0x00#8, 0x00#8)]
  | .dateTime =>
    [(0xFF#8, 0x00#8), (0xFF#8, 0x01#8), (0xFE#8, 0x02#8), (0xFC#8, 0x04#8), (0xFC#8, 0x08#8), (0xFF#8, 0x0C#8),
     (0xFF#8, 0x0D#8), (0xFE#8, 0x0E#8), (0xF0#8, 0x10#8), (0xE0#8, 0x20#8), (0xC0#8, 0x40#8), (0x80#8, 0x80#8)]
  | .payload =>
    [(0xFF#8, 0x00#8), (0xFF#8, 0x01#8), (0xFF#8, 0x02#8), (0xFF#8, 0x03#8), (0xFC#8, 0x04#8), (0xF8#8, 0x08#8),
     (0xFE#8, 0x10#8), (0xFF#8, 0x12#8), (0xFF#8, 0x13#8), (0xFC#8, 0x14#8), (0xF8#8, 0x18#8), (0xE0#8, 0x20#8),
     (0xC0#8, 0x40#8), (0x80#8, 0x80#8)]
  | .peek =>
    [(0xFF#8, 0x00#8), (0xFF#8, 0x01#8), (0xFF#8, 0x02#8), (0xFF#8, 0x03#8), (0xFC#8, 0x04#8), (0xFF#8, 0x08#8),
     (0xFF#8, 0x09#8), (0xFF#8, 0x0A#8), (0xFF#8, 0x0B#8), (0xFC#8, 0x0C#8), (0xFE#8, 0x10#8), (0xFF#8, 0x12#8),
     (0xFF#8, 0x13#8), (0xFC#8, 0x14#8), (0xF8#8, 0x18#8), (0xE0#8, 0x20#8), (0xC0#8, 0x40#8), (0x80#8, 0x80#8)]
  | .value =>
    [(0xFF#8, 0x00#8), (0xFF#8, 0x01#8), (0xFF#8, 0x02#8), (0xFF#8, 0x03#8), (0xFF#8, 0x04#8), (0xFF#8, 0x05#8),
     (0xFF#8, 0x06#8), (0xFF#8, 0x07#8), (0xFF#8, 0x08#8), (0xFF#8, 0x09#8), (0xFF#8, 0x0A#8), (0xFF#8, 0x0B#8),
     (0xFF#8, 0x0C#8), (0xFF#8, 0x0D#8), (0xFF#8, 0x0E#8), (0xFF#8, 0x0F#8), (0xFF#8, 0x10#8), (0xFF#8, 0x11#8),
     (0xFF#8, 0x12#8), (0xFF#8, 0x13#8), (0xFF#8, 0x14#8), (0xFF#8, 0x15#8), (0xFF#8, 0x16#8), (0xFF#8, 0x17#8),
     (0xFF#8, 0x18#8), (0xFF#8, 0x19#8), (0xFF#8, 0x1A#8), (0xFF#8, 0x1B#8), (0xFC#8, 0x1C#8), (0xE0#8, 0x20#8),
     (0xC0#8, 0x40#8), (0x80#8, 0x80#8)]

/-- The check that two rows of a list which agree on the bits both of them fix are the same row. -/
def rowsDisjoint (rows : List (Byte × Byte)) : Bool :=
  rows.all fun r => rows.all fun r' => r.2 &&& r'.1 != r'.2 &&& r.1 || r == r'

theorem rowsDisjoint_rowsAt (p : Position) : rowsDisjoint (rowsAt p) = true := by
  cases p <;> decide +kernel

/-- Two rows of one position that agree on the bits both of them fix are the same row. -/
theorem rowsAt_eq_of_agree {p : Position} {r r' : Byte × Byte} (hr : r ∈ rowsAt p) (hr' : r' ∈ rowsAt p)
    (h : r.2 &&& r'.1 = r'.2 &&& r.1) : r = r' := by
  have hall := List.all_eq_true.mp (List.all_eq_true.mp (rowsDisjoint_rowsAt p) r hr) r' hr'
  simpa [h] using hall

/-- A byte in two rows shows that they agree on the bits both of them fix. -/
theorem agree_of_byte {b : Byte} {r r' : Byte × Byte} (h : b &&& r.1 = r.2) (h' : b &&& r'.1 = r'.2) :
    r.2 &&& r'.1 = r'.2 &&& r.1 := by
  rw [← h, ← h', BitVec.and_assoc, BitVec.and_assoc, BitVec.and_comm r.1]

/-- An instruction belongs to a row of the position, and that row matches the byte. -/
def Instr.standsIn (i : Instr) (p : Position) (b : Byte) : Prop :=
  ∃ r ∈ rowsAt p, i.row = some r ∧ b &&& r.1 = r.2

/-- The same, as a check. -/
def Instr.checkRow (i : Instr) (p : Position) (b : Byte) : Bool :=
  i.row.any fun r => decide (r ∈ rowsAt p) && rowMatches b r.1 r.2

theorem Instr.standsIn_of_checkRow {i : Instr} {p : Position} {b : Byte} (h : i.checkRow p b = true) :
    i.standsIn p b := by
  rw [Instr.checkRow, Option.any_eq_true] at h
  obtain ⟨r, hr, hcheck⟩ := h
  rw [Bool.and_eq_true, decide_eq_true_eq] at hcheck
  exact ⟨r, hcheck.1, hr, beq_iff_eq.mp hcheck.2⟩

/-- The bytes that are read alone at a position. -/
def Position.readsAlone : Position → Byte → Bool
  | .flag, b => b == 0x7E#8
  | .format, b => decide (b.toNat < 0x80 ∨ 0xF0 < b.toNat)
  | _, _ => true

/-- A byte that is read alone is written as itself, and the row it is read as matches it. -/
theorem encode_byteInstr {p : Position} {b : Byte} (h : p.readsAlone b = true) :
    encode (byteInstr p b) = .bytes p [b] ∧ (byteInstr p b).checkRow p b = true := by
  revert b
  cases p <;> decide +kernel

theorem encode_singleInstr {b : Byte} (h : b.toNat < 0x80 ∨ 0xF0 < b.toNat) :
    encode (singleInstr b) = .bytes .format [b] ∧ (singleInstr b).checkRow .format b = true :=
  encode_byteInstr (p := .format) (decide_eq_true h)

/-- Past the rows before it only 0xF0 is left for the last extended row. -/
theorem eq_F0_of_no_row {b : Byte} (h : 0x80 ≤ b.toNat ∧ b.toNat ≤ 0xF0)
    (hrows : ¬ rowMatches b 0xC0#8 0x80#8 = true ∧ ¬ rowMatches b 0xE0#8 0xC0#8 = true ∧
      ¬ rowMatches b 0xF0#8 0xE0#8 = true) : b = 0xF0#8 := by
  revert b
  decide +kernel

theorem standsIn_extInstr {b1 : Byte} (h : 0x80 ≤ b1.toNat ∧ b1.toNat ≤ 0xF0) (b2 : Byte) :
    (extInstr b1 b2).standsIn .format b1 := by
  unfold extInstr
  split
  · next hrow => exact ⟨_, by decide, rfl, beq_iff_eq.mp hrow⟩
  · next h1 =>
    split
    · next hrow => exact ⟨_, by decide, rfl, beq_iff_eq.mp hrow⟩
    · next h2 =>
      split
      · next hrow => exact ⟨_, by decide, rfl, beq_iff_eq.mp hrow⟩
      · next h3 =>
        rw [eq_F0_of_no_row h ⟨h1, h2, h3⟩]
        exact ⟨_, by decide, rfl, by decide⟩

/-- The row of the frame-format position that a byte selects matches it. -/
theorem standsIn_of_decodeFormat {b : Byte} {bs rest : List Byte} {i : Instr}
    (h : decodeFormat b bs = .ok (i, rest)) : i.standsIn .format b := by
  by_cases hext : 0x80 ≤ b.toNat ∧ b.toNat ≤ 0xF0
  · cases bs with
    | nil =>
      rw [decodeFormat_extended_nil hext.1 hext.2] at h
      contradiction
    | cons b2 bs =>
      rw [decodeFormat_extended hext.1 hext.2] at h
      cases h
      exact standsIn_extInstr hext b2
  · have hsingle : b.toNat < 0x80 ∨ 0xF0 < b.toNat := by omega
    rw [decodeFormat_single hsingle] at h
    cases h
    exact Instr.standsIn_of_checkRow (encode_singleInstr hsingle).2

/-- The row of the instruction that a byte is read as matches that byte. -/
theorem standsIn_of_decodeAt {p : Position} {b : Byte} {bs rest : List Byte} {i : Instr}
    (h : decodeAt p (b :: bs) = .ok (i, rest)) : i.standsIn p b := by
  by_cases hformat : p = .format
  · subst hformat
    exact standsIn_of_decodeFormat h
  by_cases hflag : p = .flag
  · subst hflag
    rw [decodeAt] at h
    split at h
    · next hb =>
      cases h
      exact ⟨_, by decide, rfl, by rw [hb]; decide⟩
    · contradiction
  rw [decodeAt_of_byte hflag hformat] at h
  cases h
  have halone : p.readsAlone b = true := by cases p <;> trivial
  exact Instr.standsIn_of_checkRow (encode_byteInstr halone).2

/-- What an instruction is written as starts with a byte that its row matches. -/
theorem standsIn_of_encode {p : Position} {b : Byte} {w : List Byte} {i : Instr} (h : encode i = .bytes p (b :: w)) :
    i.standsIn p b := by
  have hdecode := decode_encode i
  rw [h] at hdecode
  exact standsIn_of_decodeAt hdecode

/-- No byte row is written as no byte. -/
theorem encode_ne_nil {p : Position} {w : List Byte} {i : Instr} (h : encode i = .bytes p w) : w ≠ [] := by
  rintro rfl
  have hdecode := decode_encode i
  rw [h] at hdecode
  contradiction

/-! ### The obligations -/

/-- Settles O21: `decode_encode`, whose cases are the rows. -/
theorem decodeInvertsEncode : Obligations.DecodeInvertsEncode :=
  decode_encode

/-- Settles O22: by the position, and at the frame-format position by whether the byte takes a second one. -/
theorem everyByteIsOneInstruction : Obligations.EveryByteIsOneInstruction := by
  refine ⟨fun p b rest hflag hformat => ⟨_, decodeAt_of_byte hflag hformat b rest, ?_⟩, fun b rest h => ?_,
    fun b1 b2 rest hlo hhi => ?_, fun b1 hlo hhi => decodeFormat_extended_nil hlo hhi, fun b rest => rfl⟩
  · have halone : p.readsAlone b = true := by cases p <;> trivial
    exact (encode_byteInstr halone).1
  · exact ⟨_, decodeFormat_single h rest, (encode_singleInstr h).1⟩
  · exact ⟨_, decodeFormat_extended hlo hhi b2 rest, encode_extInstr hlo hhi b2⟩

/-- Settles O23: a byte in two rows shows that they agree on the bits both of them fix, and such rows of one position are
the same. -/
theorem rowsDoNotOverlap : Obligations.RowsDoNotOverlap := by
  intro p i j b w w' mask pat hi hj hrow
  obtain ⟨r, hr, hir, hbr⟩ := standsIn_of_encode hi
  obtain ⟨b', bs, rfl⟩ := List.exists_cons_of_ne_nil (encode_ne_nil hj)
  obtain ⟨r', hr', hjr, _⟩ := standsIn_of_encode hj
  obtain rfl : r' = (mask, pat) := Option.some.inj (hjr.symm.trans hrow)
  rw [hir, hjr]
  constructor
  · intro hb
    exact congrArg some (rowsAt_eq_of_agree hr' hr (agree_of_byte hb hbr))
  · intro heq
    cases heq
    exact hbr

/-- Settles O24: each word is one evaluation of the decoder. -/
theorem specWordsDecode : Obligations.SpecWordsDecode := by
  unfold Obligations.SpecWordsDecode
  and_intros
  all_goals decide

end Sys2Proof
end

section
/-! PROOFS. The host transactions and the frame of every row (40_host_transactions.md R200-R212; 20_memory.md R81, R89-R91;
60_exceptions.md R500, R504; 70_reset_and_hazards.md R601): what an attempt's end leaves unchanged and what it keeps of BUF. -/

namespace Sys2Proof.Machine

/-! ### The buffer's primitives -/

/-- R90: reading after a cut at `k` is reading `k` further on. -/
theorem Memory.read_drop_of_wf {m : Memory} (h : m.wf = true) (k addr : Nat) :
    (Memory.ofBytes (m.bytes.drop k)).read addr = m.read (k + addr) := by
  rw [Memory.read_ofBytes, List.getElem?_drop, Memory.read_of_wf h]

/-- R89: the held bytes stand, the chunk follows them. -/
theorem Memory.read_append_of_wf {m : Memory} (h : m.wf = true) (chunk : List Byte) (addr : Nat) :
    (m.append chunk).read addr = if addr < m.size then m.read addr else chunk[addr - m.size]? := by
  rw [Memory.read_append, Memory.read_of_wf h, List.getElem?_append, Memory.length_bytes]

/-! ### What the end of an attempt leaves -/

section
variable {s t : State}

theorem Ending.inbox_eq (h : Ending s t) : t.inbox = s.inbox := by
  cases h <;> rfl

theorem Ending.response_eq (h : Ending s t) : t.response = s.response := by
  cases h <;> rfl

theorem Ending.status_bounds (h : Ending s t) : 1 ≤ t.status.toNat ∧ t.status.toNat ≤ 9 := by
  obtain ⟨oc, hoc⟩ := h.status_eq_code
  exact hoc ▸ oc.code_bounds

/-- No end of an attempt clears LATEST_VALID. -/
theorem Ending.latestValid_of (h : Ending s t) (hs : s.latestValid = true) : t.latestValid = true := by
  cases h
  case published => rfl
  all_goals exact hs

/-- The codes 2, 3 and 4 are those of the insufficient outcomes (R500). -/
theorem ParseOutcome.insufficient_of_code {oc : ParseOutcome} (h : oc.code = 2#4 ∨ oc.code = 3#4 ∨ oc.code = 4#4) :
    oc.insufficient = true := by
  revert h
  cases oc <;> decide

/-- An outcome that resynchronizes is not an insufficient one. -/
theorem ParseOutcome.not_resync_of_insufficient {oc : ParseOutcome} (h : oc.insufficient = true) : oc.resync = false := by
  revert h
  cases oc <;> decide

/-- R500: an end with one of the codes 2, 3 and 4 is insufficient data, which leaves all but STATUS. -/
theorem Ending.insufficient_of_status (h : Ending s t) (ht : t.status = 2#4 ∨ t.status = 3#4 ∨ t.status = 4#4) :
    ∃ oc : ParseOutcome, oc.insufficient = true ∧ t = s.endInsufficient oc := by
  cases h with
  | insufficient oc hoc => exact ⟨oc, hoc, rfl⟩
  | resync oc a hoc =>
    have hins : oc.insufficient = true := ParseOutcome.insufficient_of_code ht
    rw [ParseOutcome.not_resync_of_insufficient hins] at hoc
    contradiction
  | failed cf => simp at ht
  | outOfBounds => simp at ht
  | published a p => simp at ht

/-- R81: an end keeps a suffix of the bytes. -/
theorem Ending.buf_suffix (h : Ending s t) (hs : s.buf.wf = true) :
    ∃ k, t.buf = Memory.ofBytes (s.buf.bytes.drop k) := by
  cases h with
  | insufficient oc _ => exact ⟨0, ((Memory.wf_iff s.buf).mp hs).1⟩
  | resync oc a _ => exact ⟨a.startOff, rfl⟩
  | failed cf => exact ⟨_, Memory.commitTrim_eq _ _ _⟩
  | outOfBounds => exact ⟨_, Memory.commitTrim_eq _ _ _⟩
  | published a p => exact ⟨_, Memory.commitTrim_eq _ _ _⟩

end

/-- R52: forward is never back. -/
theorem Attempt.le_of_forward {a b : Attempt} (h : a.forward b) : a.c ≤ b.c := by
  rcases h with h | ⟨h, _, _⟩
  · exact Nat.le_of_lt h
  · exact Nat.le_of_eq h

/-! ### LATEST_VALID -/

section
variable {s t : State}

/-- A transaction other than RESET keeps LATEST_VALID. -/
theorem exec_toInstr_latestValid {r : HostRequest} (hr : r ≠ .reset) (ht : exec r.toInstr s = .next t)
    (hs : s.latestValid = true) : t.latestValid = true := by
  cases r with
  | push chunk => exact (ending_of_execPush ht).latestValid_of hs
  | readLatest =>
    have hread : execReadLatest s = .next t := ht
    unfold execReadLatest State.whenIdle at hread
    split at hread
    · cases hread
      exact hs
    · contradiction
  | reset => contradiction

/-- A byte row keeps LATEST_VALID. -/
theorem exec_bytes_latestValid {i : Instr} {p : Position} {w : List Byte} (he : encode i = .bytes p w)
    (ht : exec i s = .next t) (hs : s.latestValid = true) : t.latestValid = true := by
  obtain ⟨a, ha, rfl⟩ := readsAt_of_exec he ht
  obtain ⟨u, hu, heff⟩ := exec_answers ha he
  obtain rfl : t = u := by
    rw [ht] at hu
    injection hu
  rcases heff.ending_or_resume with hend | ⟨b, rfl, _⟩
  · exact hend.latestValid_of hs
  · exact hs

/-- An instruction is a request's or it is written as bytes. -/
theorem toInstr_or_bytes (i : Instr) : (∃ r : HostRequest, i = r.toInstr) ∨ ∃ p w, encode i = .bytes p w := by
  cases he : encode i with
  | bytes p w => exact .inr ⟨p, w, rfl⟩
  | request r =>
    have hdecode := decode_encode i
    rw [he] at hdecode
    injection hdecode with hpair
    injection hpair with hi
    exact .inl ⟨r, hi.symm⟩

end

/-! ### PUSH and its byte rows -/

/-- Log 1: an attempt that ends within its budget is that many steps of the machine, each but the last inside it. -/
theorem run_of_runAttempt {n : Nat} {s t : State} (h : runAttempt n s = .next t) :
    ∃ k, Sys2Proof.core.run k s = .next t ∧ t.attempt = none ∧
      ∀ j, j < k → ∃ u : State, Sys2Proof.core.run j s = .next u ∧ u.attempt ≠ none := by
  cases ha : s.attempt with
  | none =>
    have hst : s = t := by
      cases n <;> simpa [runAttempt, ha] using h
    exact ⟨0, congrArg _ hst, hst ▸ ha, nofun⟩
  | some a =>
    induction n generalizing s a with
    | zero => simp [runAttempt, ha] at h
    | succ n ih =>
      obtain ⟨u, hu, _⟩ := s.attemptStep_cases (a := a)
      have hstep : Sys2Proof.core.step s = .next u := (step_of_running ha).trans hu
      have hrun : ∀ k, Sys2Proof.core.run (k + 1) s = Sys2Proof.core.run k u := fun k => by
        simp only [Host.Core.run, hstep]
      simp only [runAttempt, ha, hu] at h
      have hself : ∃ v : State, Sys2Proof.core.run 0 s = .next v ∧ v.attempt ≠ none := ⟨s, rfl, by simp [ha]⟩
      cases hb : u.attempt with
      | none =>
        have hut : u = t := by
          cases n <;> simpa [runAttempt, hb] using h
        refine ⟨1, (hrun 0).trans (congrArg _ hut), hut ▸ hb, fun j hj => ?_⟩
        obtain rfl : j = 0 := by omega
        exact hself
      | some b =>
        obtain ⟨k, hk, ht, hbefore⟩ := ih h b hb
        refine ⟨k + 1, (hrun k).trans hk, ht, fun j hj => ?_⟩
        cases j with
        | zero => exact hself
        | succ j =>
          rw [hrun]
          exact hbefore j (Nat.lt_of_succ_lt_succ hj)

/-- R200: in an idle block and within the contract PUSH is one attempt, on its budget. -/
theorem execPush_eq_runAttempt {s : State} {chunk : List Byte} (hs : s.attempt = none) (hc : chunk.length ≤ 2048) :
    execPush chunk s = runAttempt (attemptBudget (s.beginPush chunk)) (s.beginPush chunk) := by
  have hw : chunkWellFormed chunk = true := decide_eq_true hc
  rw [execPush, State.whenIdle_of_idle hs, if_pos hw]

/-! ### The obligations -/

/-- Settles O8: PUSH is an attempt that ends, and such an attempt is steps of the machine. -/
theorem pushRunsItsByteRows : Obligations.PushRunsItsByteRows := by
  intro s chunk hs hc
  obtain ⟨t, ht, hend⟩ := execPush_ends hs hc
  rw [execPush_eq_runAttempt hs hc] at ht
  obtain ⟨k, hk, _, hbefore⟩ := run_of_runAttempt ht
  exact ⟨k, t, (execPush_eq_runAttempt hs hc).trans ht, hend.attempt_none, hk, hbefore⟩

/-- Settles O13: every end of the attempt that PUSH begins leaves the requests and PUSH's empty response. -/
theorem pushFrame : Obligations.PushFrame := by
  intro s t chunk h
  have hend : Ending (s.beginPush chunk) t := ending_of_execPush h
  exact ⟨hend.attempt_none, hend.inbox_eq, hend.response_eq, hend.status_bounds⟩

/-- Settles O17: the idle block's length test, and the guard that every transaction starts with. -/
theorem contractBreaksAreRefused : Obligations.ContractBreaksAreRefused := by
  refine ⟨fun s chunk hs hlong => execPush_of_tooLong hs hlong, fun s i hs hi => ?_⟩
  obtain ⟨a, ha⟩ := Option.ne_none_iff_exists'.mp hs
  have hbusy : ∀ run, s.whenIdle run = .refused .overlappingTransaction := fun run => by
    simp only [State.whenIdle, ha]
  obtain ⟨chunk, rfl⟩ | rfl | rfl := hi
  all_goals exact hbusy _

/-- Settles O18: an idle block runs READ_LATEST, which writes the response alone. -/
theorem readLatestReturnsSnapshot : Obligations.ReadLatestReturnsSnapshot :=
  fun _ hs => State.whenIdle_of_idle hs _

/-- RESET of an idle block is the reset state with its OUT and the requests still waiting. -/
theorem execReset_of_idle {s : State} (hs : s.attempt = none) :
    execReset s = .next { State.reset with out := s.out, inbox := s.inbox } := by
  rw [execReset, State.whenIdle_of_idle hs, hs]
  rfl

/-- Settles O19: RESET's next state depends on OUT and the inbox alone, and it has kept both. -/
theorem resetRestoresAllButOut : Obligations.ResetRestoresAllButOut := by
  intro s hs
  refine ⟨execReset_of_idle hs, fun t ht => ?_⟩
  have hreset : execReset s = .next t := ht
  rw [execReset_of_idle hs] at hreset
  cases hreset
  exact execReset_of_idle rfl

/-- Settles O20: the other transactions and every byte row keep LATEST_VALID, and a step is one of them, a RESET, or nothing. -/
theorem onlyResetClearsLatestValid : Obligations.OnlyResetClearsLatestValid := by
  constructor
  · intro i s t hi ht hs
    obtain ⟨r, rfl⟩ | ⟨p, w, he⟩ := toInstr_or_bytes i
    · refine exec_toInstr_latestValid ?_ ht hs
      rintro rfl
      exact hi rfl
    · exact exec_bytes_latestValid he ht hs
  · intro s t ht hs hcleared
    have hne : t.latestValid ≠ true := by simp [hcleared]
    cases ha : s.attempt with
    | some a =>
      obtain ⟨u, hu, hcases⟩ := s.attemptStep_cases (a := a)
      rw [step_of_running ha, hu] at ht
      cases ht
      rcases hcases with hend | ⟨b, rfl, _⟩
      · exact absurd (hend.latestValid_of hs) hne
      · exact absurd hs hne
    | none =>
      refine ⟨rfl, ?_⟩
      cases hin : s.inbox with
      | nil =>
        rw [step_of_waiting ha hin] at ht
        cases ht
        exact absurd hs hne
      | cons r rest =>
        rw [step_of_request ha hin] at ht
        by_cases hr : r = .reset
        · exact ⟨rest, by rw [hr]⟩
        · exact absurd (exec_toInstr_latestValid hr ht hs) hne

/-- Settles O26: a row's effect is the attempt further on or an end of it. -/
theorem byteRowFrame : Obligations.ByteRowFrame := by
  intro s t i p w a he hbuf ha ht
  obtain ⟨a', ha', rfl⟩ := readsAt_of_exec he ht
  obtain rfl : a = a' := Option.some.inj (ha.symm.trans ha')
  obtain ⟨u, hu, heff⟩ := exec_answers ha he
  obtain rfl : t = u := by
    rw [ht] at hu
    injection hu
  rcases heff.ending_or_resume with hend | ⟨b, rfl, hforward⟩
  · refine ⟨hend.inbox_eq, hend.response_eq, .inr ⟨hend.attempt_none, hend.status_bounds.1, hend.status_bounds.2, ?_, ?_,
      hend.published_of_recordOk, hend.record_unchanged⟩⟩
    · obtain ⟨k, hk⟩ := hend.buf_suffix hbuf
      exact ⟨k, fun addr => by rw [hk, Memory.read_drop_of_wf hbuf]⟩
    · intro hstatus addr
      obtain ⟨oc, _, rfl⟩ := hend.insufficient_of_status hstatus
      rfl
  · exact ⟨rfl, rfl, .inl ⟨b, rfl, Attempt.le_of_forward hforward⟩⟩

/-- Settles O60: the laws of the byte view and of the canonical form, clause by clause. -/
theorem bufferPrimitives : Obligations.BufferPrimitives := by
  refine ⟨fun m chunk addr h => Memory.read_append_of_wf h chunk addr, fun m k addr h => Memory.read_drop_of_wf h k addr,
    fun addr => rfl, fun m k h => ⟨Memory.dropFront_wf h k, fun hk => ?_⟩, fun m chunk h => ?_⟩
  · rw [Memory.dropFront, List.drop_eq_nil_of_le (by simpa using hk), Memory.ofBytes_nil]
  · have hlen : (m.bytes ++ chunk).length ≤ 2048 := by simpa using h
    exact Memory.ofBytes_wf hlen

end Sys2Proof.Machine
end

section
/-! PROOFS. The frame synchronizer's rows (41_frame_sync.md R230-R246): what each row at its position answers, in the
arithmetic of the spec, and the CRC loop as the reflection of the literal one. -/

namespace Sys2Proof.Machine

-- Each evaluation over all bytes waits for the kernel: one after another they need one thread, not one each.
set_option Elab.async false

/-! ### FLAG -/

/-- R231: the run of flags in front of a byte that is none. -/
theorem length_takeWhile_flag (n : Nat) {rest : List Byte} (h : rest.head? ≠ some Config.params.flag) :
    ((List.replicate n Config.params.flag ++ rest).takeWhile fun b => b == Config.params.flag).length = n := by
  induction n with
  | zero =>
    cases rest with
    | nil => rfl
    | cons b rest =>
      have hb : (b == Config.params.flag) = false := beq_eq_false_iff_ne.mpr fun hb => h (congrArg some hb)
      rw [List.replicate_zero, List.nil_append, List.takeWhile_cons, hb]
      rfl
  | succ n ih =>
    rw [List.replicate_succ, List.cons_append, List.takeWhile_cons, beq_self_eq_true, if_pos rfl, List.length_cons, ih]

section
variable {s : State} {a : Attempt}

/-- R230-R233: FLAG with `run` flags after it. -/
theorem execFlag_of (h : s.standsAt a .flag) {n : Nat}
    (hn : ((s.buf.bytes.drop (a.c + 1)).takeWhile fun b => b == Config.params.flag).length = n) :
    execFlag s = .next (if s.buf.bytes.length < a.c + 1 + n + 14 then s.endInsufficient .insuffShort
      else s.resume { a with fi := a.c, startOff := a.c + 1 + n, c := a.c + 1 + n, phase := .format }) := by
  rw [execFlag, State.atFlag_of h]
  dsimp only
  rw [hn]
  rfl

/-! ### The frame-format rows -/

/-- What is written at the frame-format position as one byte is read as that byte alone. -/
theorem eq_singleInstr_of_encode {row : Instr} {b : Byte} (h : encode row = .bytes .format [b]) :
    (b.toNat < 0x80 ∨ 0xF0 < b.toNat) ∧ row = singleInstr b := by
  have hdecode : decodeFormat b [] = .ok (row, []) := by
    have hinv := decode_encode row
    rwa [h] at hinv
  by_cases hext : 0x80 ≤ b.toNat ∧ b.toNat ≤ 0xF0
  · rw [decodeFormat_extended_nil hext.1 hext.2] at hdecode
    contradiction
  · have hsingle : b.toNat < 0x80 ∨ 0xF0 < b.toNat := by omega
    rw [decodeFormat_single hsingle] at hdecode
    cases hdecode
    exact ⟨hsingle, rfl⟩

/-- What is written at the frame-format position as two bytes is read as the extended form. -/
theorem eq_extInstr_of_encode {row : Instr} {b1 b2 : Byte} (h : encode row = .bytes .format [b1, b2]) :
    (0x80 ≤ b1.toNat ∧ b1.toNat ≤ 0xF0) ∧ row = extInstr b1 b2 := by
  have hdecode : decodeFormat b1 [b2] = .ok (row, []) := by
    have hinv := decode_encode row
    rwa [h] at hinv
  by_cases hext : 0x80 ≤ b1.toNat ∧ b1.toNat ≤ 0xF0
  · rw [decodeFormat_extended hext.1 hext.2] at hdecode
    cases hdecode
    exact ⟨hext, rfl⟩
  · rw [decodeFormat_single (by omega)] at hdecode
    cases hdecode

/-- R234: a byte up to 0x7F is the short form of its own value. -/
theorem exec_singleInstr_short {b : Byte} (hb : b.toNat ≤ 0x7F) (s : State) :
    exec (singleInstr b) s = s.atFormat fun a => s.setFormat a 0 false b.toNat 1 := by
  have hrow : rowMatches b 0x80#8 0x00#8 = true ∧ (b.setWidth 7).toNat = b.toNat := by
    revert b
    decide +kernel
  rw [singleInstr, if_pos hrow.1]
  simp only [exec, execFmtShort, hrow.2]

/-- R234: a byte from 0xF1 is an unsupported format. -/
theorem exec_singleInstr_unsupported {b : Byte} (hb : 0xF1 ≤ b.toNat) (s : State) :
    exec (singleInstr b) s = s.unsupportedFormat := by
  have hrow : ¬ rowMatches b 0x80#8 0x00#8 = true := by
    revert b
    decide +kernel
  unfold singleInstr
  split
  · contradiction
  · repeat' split
    all_goals rfl

/-- R234, D6: the fields of the extended rows in the arithmetic of the spec, row by row. -/
theorem extended_fields : ∀ b : Byte,
    (rowMatches b 0xC0#8 0x80#8 = true → 1 + (b.extractLsb' 4 2).toNat = b.toNat / 128 + b.toNat / 16 % 8) ∧
    (rowMatches b 0xE0#8 0xC0#8 = true → 1 + (4 + (b.extractLsb' 4 1).toNat) = b.toNat / 128 + b.toNat / 16 % 8) ∧
    (rowMatches b 0xF0#8 0xE0#8 = true → 1 + 6 = b.toNat / 128 + b.toNat / 16 % 8) ∧
    b.getLsbD 3 = (b.toNat / 8 % 2 == 1) := by
  decide +kernel

/-- R234: the extended form with its fields in the arithmetic of the spec. -/
theorem exec_extInstr {b1 : Byte} (h : 0x80 ≤ b1.toNat ∧ b1.toNat ≤ 0xF0) (b2 : Byte) (s : State) :
    exec (extInstr b1 b2) s = s.atFormat fun a =>
      s.setFormat a (b1.toNat / 128 + b1.toNat / 16 % 8) (b1.toNat / 8 % 2 == 1) (b1.toNat % 8 * 256 + b2.toNat) 2 := by
  obtain ⟨hBF, hDF, hEF, hseg⟩ := extended_fields b1
  unfold extInstr
  split
  · next hrow => rw [← hBF hrow, ← hseg, ← toNat_extLength]; rfl
  · next h1 =>
    split
    · next hrow => rw [← hDF hrow, ← hseg, ← toNat_extLength]; rfl
    · next h2 =>
      split
      · next hrow => rw [← hEF hrow, ← hseg, ← toNat_extLength]; rfl
      · next h3 =>
        have hlen : (0xF0#8).toNat % 8 * 256 + b2.toNat = b2.toNat := by
          rw [show (0xF0#8).toNat % 8 = 0 from rfl]
          omega
        rw [eq_F0_of_no_row h ⟨h1, h2, h3⟩, hlen]
        rfl

/-- R235: a frame that is complete goes on to the addresses. -/
theorem State.setFormat_of_complete {dlen : Nat} (h : a.startOff + dlen < s.buf.size) (fmt : Nat) (seg : Bool)
    (width : Nat) :
    s.setFormat a fmt seg dlen width = s.resume { a with
      fmt := fmt, seg := seg, dlen := dlen, c := a.c + width, addrC := 0#32, phase := .client 0 } :=
  if_pos h

/-! ### The address rows -/

/-- R124: an address byte's row is the one of its terminator bit, and the row's byte is the byte itself. -/
theorem exec_of_encode_address {row : Instr} {b : Byte} (h : encode row = .bytes .address [b]) (s : State) :
    exec row s = s.addressStep b (b.getLsbD 0) := by
  have hmore : ∀ hi : BitVec 7, (addressByte hi 0#1).getLsbD 0 = false ∧ (addressByte hi 1#1).getLsbD 0 = true := by
    decide +kernel
  cases row
  case addrMore hi =>
    cases h
    rw [(hmore hi).1]
    rfl
  case addrLast hi =>
    cases h
    rw [(hmore hi).2]
    rfl
  all_goals cases h

/-- R236: an address ends at its last byte or its fourth. -/
theorem addressEnds_iff (last : Bool) (k : Nat) :
    (last || decide (k + 1 ≥ Config.params.addrMaxBytes)) = true ↔ last = true ∨ 3 ≤ k := by
  have hmax : Config.params.addrMaxBytes = 4 := rfl
  rw [Bool.or_eq_true, decide_eq_true_eq, hmax]
  exact or_congr Iff.rfl Nat.succ_le_succ_iff

theorem State.addressStep_client {k : Nat} (h : s.standsAt a (.client k)) (b : Byte) (last : Bool) :
    s.addressStep b last = .next (s.resume (
      if last = true ∨ 3 ≤ k then
        { a with addrC := accumulateAddress a.addrC b, c := a.c + 1, addrS := 0#32, phase := .server 0 }
      else { a with addrC := accumulateAddress a.addrC b, c := a.c + 1, phase := .client (k + 1) })) := by
  rw [State.addressStep, State.atAddress_client h]
  simp only [addressEnds_iff]
  split <;> rfl

theorem State.addressStep_server {k : Nat} (h : s.standsAt a (.server k)) (b : Byte) (last : Bool) :
    s.addressStep b last = .next (s.resume (
      if last = true ∨ 3 ≤ k then { a with addrS := accumulateAddress a.addrS b, c := a.c + 1, phase := .control }
      else { a with addrS := accumulateAddress a.addrS b, c := a.c + 1, phase := .server (k + 1) })) := by
  rw [State.addressStep, State.atAddress_server h]
  simp only [addressEnds_iff]
  split <;> rfl

/-! ### The frame CRC -/

/-- R239: a declared length below 2 holds no FCS. -/
theorem State.checkFrameCrc_of_short (h : a.dlen < 2) : s.checkFrameCrc a = s.endResync a .fcsMismatch :=
  if_pos h

/-- R239, R242: with its FCS in BUF, the frame CRC's check compares it with the CRC from S to the FCS. -/
theorem State.checkFrameCrc_of_fcs {p : Nat} {fcs : BitVec 16} (hdlen : 2 ≤ a.dlen) (hp : a.startOff + a.dlen = (p : Int) + 2)
    (hfcs : le16At s.buf.bytes p = some fcs) :
    s.checkFrameCrc a = if crc16 (slice s.buf.bytes a.startOff p) = fcs then
        s.resume { a with fcs := fcs, c := a.c + 10, phase := .dateTime 0 }
      else s.endResync a .fcsMismatch := by
  have hat : (a.startOff + a.dlen - 2).toNat = p := by omega
  unfold State.checkFrameCrc
  rw [if_neg (by omega), hat]
  simp only [hfcs]
  rfl

/-! ### The date-time rows -/

/-- R243: a row of the scan that is no marker is skipped or is the length byte. -/
theorem exec_of_encode_dateTime {row : Instr} {b : Byte} (h : encode row = .bytes .dateTime [b]) (h0 : b ≠ 0x00#8)
    (h12 : b ≠ 0x0C#8) (s : State) : exec row s = s.dateTimeSkip b := by
  cases row
  case dtMarkerEmpty | dtMarker12 =>
    cases h
    contradiction
  case dtSkip0101 | dtSkip0203 | dtSkip0407 | dtSkip080B | dtSkip0D0D | dtSkip0E0F | dtSkip101F | dtSkip203F
      | dtSkip407F | dtSkip80FF =>
    cases h
    rfl
  all_goals cases h

theorem State.dateTimeSkip_of {i : Nat} (h : s.standsAt a (.dateTime i)) (b : Byte) :
    s.dateTimeSkip b = .next (if i < 12 then s.resume { a with c := a.c + 1, phase := .dateTime (i + 1) }
      else s.dateTimeField a b.toNat) :=
  State.atDateTime_of h _

/-- R243: the data lies in BUF. -/
theorem State.dateTimeField_of_le {n : Nat} (h : a.c + 1 + n ≤ s.buf.size) :
    s.dateTimeField a n = s.resume { a with
      dt := (s.buf.bytes.drop (a.c + 1)).take n, c := a.c + 1 + n, phase := .payload, merges := [] } := by
  rw [← Memory.length_bytes] at h
  rw [State.dateTimeField, memRead_of_le h]

/-- R82: the data runs past the end of BUF. -/
theorem State.dateTimeField_of_lt {n : Nat} (h : s.buf.size < a.c + 1 + n) : s.dateTimeField a n = s.raiseOob := by
  rw [← Memory.length_bytes] at h
  rw [State.dateTimeField, memRead_eq_none.mpr h]

/-- R243: the rows that the date-time field's length is read by are the field of that length. -/
theorem exec_lengthRow {i n : Nat} {row : Instr} (h : s.standsAt a (.dateTime i))
    (hrow : (row, n) ∈ [(Instr.dtMarkerEmpty, 0), (Instr.dtMarker12, 12)] ∨
      (12 ≤ i ∧ ∃ b : Byte, encode row = .bytes .dateTime [b] ∧ b ≠ 0x00#8 ∧ b ≠ 0x0C#8 ∧ n = b.toNat)) :
    exec row s = .next (s.dateTimeField a n) := by
  rcases hrow with hmarker | ⟨hi, b, he, h0, h12, rfl⟩
  · simp only [List.mem_cons, Prod.mk.injEq, List.not_mem_nil, or_false] at hmarker
    rcases hmarker with ⟨rfl, rfl⟩ | ⟨rfl, rfl⟩
    · exact State.atDateTime_of h _
    · exact State.atDateTime_of h _
  · rw [exec_of_encode_dateTime he h0 h12, State.dateTimeSkip_of h, if_neg (Nat.not_lt.mpr hi)]

end

/-! ### The CRC and its reflection -/

/-- Reflection turns the register's shift around. -/
theorem reverse_shiftLeft_one (x : BitVec 16) : (x <<< 1).reverse = x.reverse >>> 1 := by
  apply BitVec.eq_of_getLsbD_eq
  intro i _
  rw [BitVec.getLsbD_reverse, BitVec.getMsbD_shiftLeft, BitVec.getLsbD_ushiftRight, BitVec.getLsbD_reverse, Nat.add_comm]

theorem reverse_xor (x y : BitVec 16) : (x ^^^ y).reverse = x.reverse ^^^ y.reverse := by
  apply BitVec.eq_of_getLsbD_eq
  intro i _
  simp only [BitVec.getLsbD_reverse, BitVec.getMsbD_xor, BitVec.getLsbD_xor]

/-- R16, R240: one turn of the reflected loop is the literal turn of the reflected register. -/
theorem crcBit_reverse (x : BitVec 16) : crcBit x.reverse = (crcForwardBit x).reverse := by
  have hpoly : Config.params.crcPolyReflected = Config.params.crcPoly.reverse := by decide
  have htop : x.reverse.getLsbD 0 = x.msb := BitVec.getLsbD_reverse
  unfold crcBit crcForwardBit
  rw [htop, hpoly]
  split
  · rw [reverse_xor, reverse_shiftLeft_one]
  · rw [reverse_shiftLeft_one]

theorem crcBits_reverse (k : Nat) (x : BitVec 16) : crcBits k x.reverse = (crcForwardBits k x).reverse := by
  induction k generalizing x with
  | zero => rfl
  | succ k ih => rw [crcBits, crcForwardBits, crcBit_reverse, ih]

/-- CRC_REFIN: a byte that enters the high bits reflected enters the low bits of the reflected register as it is. -/
theorem reverse_inputByte (b : Byte) : (b.reverse.setWidth 16 <<< 8).reverse = b.setWidth 16 := by
  revert b
  decide +kernel

theorem crcByte_reverse (x : BitVec 16) (b : Byte) : crcByte x.reverse b = (crcForwardByte x b).reverse := by
  rw [crcByte, crcForwardByte, ← crcBits_reverse, reverse_xor, reverse_inputByte]

theorem foldl_crcByte_reverse (bs : List Byte) (x : BitVec 16) :
    bs.foldl crcByte x.reverse = (bs.foldl crcForwardByte x).reverse := by
  induction bs generalizing x with
  | nil => rfl
  | cons b bs ih => rw [List.foldl_cons, List.foldl_cons, crcByte_reverse, ih]

/-! ### The obligations -/

/-- Settles O27: the run of flags is counted by the hypothesis on what follows it. -/
theorem flagRowSkipsIdleFill : Obligations.FlagRowSkipsIdleFill := by
  intro s a n rest h hdrop hrest
  have hrun : ((s.buf.bytes.drop (a.c + 1)).takeWhile fun b => b == Config.params.flag).length = n := by
    rw [hdrop]
    exact length_takeWhile_flag n hrest
  have hlen : s.buf.bytes.length - (a.c + 1) = n + rest.length := by
    rw [← List.length_drop, hdrop, List.length_append, List.length_replicate]
  have hexec : exec .flag s = _ := execFlag_of h hrun
  constructor
  · intro hlong
    rw [hexec, if_neg (by omega)]
    rfl
  · intro hshort
    rw [hexec, if_pos (by omega)]
    rfl

/-- Settles O28: the short and the extended form as they are read back from their bytes. -/
theorem formatFieldsOfBytes : Obligations.FormatFieldsOfBytes := by
  intro s a row h
  refine ⟨fun b1 he hb hlen => ?_, fun b1 b2 he hlen => ?_⟩
  · obtain ⟨_, rfl⟩ := eq_singleInstr_of_encode he
    rw [exec_singleInstr_short hb, State.atFormat_of h, State.setFormat_of_complete hlen]
    rfl
  · obtain ⟨hext, rfl⟩ := eq_extInstr_of_encode he
    rw [exec_extInstr hext, State.atFormat_of h, State.setFormat_of_complete hlen]
    rfl

/-- Settles O30: the four rows from 0xF1 on are one operation. -/
theorem unsupportedFormatResyncs : Obligations.UnsupportedFormatResyncs := by
  intro s a row b1 h he hb
  obtain ⟨_, rfl⟩ := eq_singleInstr_of_encode he
  rw [exec_singleInstr_unsupported hb]
  exact State.atFormat_of h _

/-- Settles O31: both rows are the shared address step, at either address. -/
theorem addressBytesAccumulate : Obligations.AddressBytesAccumulate := by
  intro s a row b k he
  rw [exec_of_encode_address he]
  exact ⟨fun h => State.addressStep_client h b _, fun h => State.addressStep_server h b _⟩

/-- Settles O32: past the header CRC the frame CRC's check decides, on the length and on the FCS. -/
theorem controlRowChecksBothCrcs : Obligations.ControlRowChecksBothCrcs := by
  intro s a b h0 h1 h hb0 hb1 hcrc
  obtain ⟨a', ha'⟩ : ∃ a' : Attempt, a' = { a with ctrl := b, c := a.c + 1, hcs := h1 ++ h0 } := ⟨_, rfl⟩
  have hexec : exec (.ctrl b) s = .next (s.checkFrameCrc a') := by
    rw [ha']
    have hcheck := State.checkHeaderCrc_of_hcs (a := { a with ctrl := b, c := a.c + 1 }) (le16At_of_bytes hb0 hb1)
    rw [if_pos hcrc] at hcheck
    exact (execCtrl_of_standsAt h b).trans (congrArg _ hcheck)
  have hdl : a'.dlen = a.dlen := by rw [ha']
  have hst : a'.startOff = a.startOff := by rw [ha']
  rw [← hdl, ← hst, hexec]
  refine ⟨fun p f0 f1 hdlen hp hf0 hf1 => ?_, fun hdlen => ?_⟩
  · rw [State.checkFrameCrc_of_fcs hdlen hp (le16At_of_bytes hf0 hf1)]
    refine ⟨fun hfcs => ?_, fun hfcs => ?_⟩
    · rw [if_pos hfcs, ha']
      rfl
    · rw [if_neg hfcs]
      rfl
  · rw [State.checkFrameCrc_of_short hdlen]
    rfl

/-- Settles O34: the loop folds the reflection of the register that the literal parameters fold. -/
theorem crcLoopMeetsParameters : Obligations.CrcLoopMeetsParameters := by
  intro bs
  have hinit : Config.params.crcInit = Config.params.crcInit.reverse := by decide
  rw [crc16, crcForward, ← foldl_crcByte_reverse, ← hinit]

/-- Settles O35: a length row is the field of its length, and any other byte of the scan is skipped below the bound. -/
theorem dateTimeScanIsBounded : Obligations.DateTimeScanIsBounded := by
  refine ⟨fun s a i n row h hrow => ⟨fun hle => ?_, fun hlt => ?_⟩, fun s a i row b h he h0 h12 hi => ?_⟩
  · rw [exec_lengthRow h hrow, State.dateTimeField_of_le hle]
    rfl
  · rw [exec_lengthRow h hrow, State.dateTimeField_of_lt hlt, State.raiseOob_eq]
  · rw [exec_of_encode_dateTime he h0 h12, State.dateTimeSkip_of h, if_pos hi]
    rfl

/-- Settles O36: the trim's test is that of the statement, and each end is written with these fields. -/
theorem commitTrimsAndPublishes : Obligations.CommitTrimsAndPublishes :=
  fun s _ _ _ => ⟨rfl, rfl, rfl, s.raiseOob_eq⟩

end Sys2Proof.Machine
end

section
/-! PROOFS. The decoders' rows and the functions of text and of numbers (42_payload_decoder.md R302-R316;
43_axdr_value_decoder.md R350-R380; 00_scope.md R23, R25): composites and strings at the end of BUF, the mapping, the
numerals. -/

namespace Sys2Proof.Machine

/-! ### Composites and strings -/

section
variable {s : State} {a : Attempt}

/-- R302: a top-level composite by its count. -/
theorem State.payloadComposite_of (h : s.standsAt a .payload) :
    s.payloadComposite = .next (match s.buf.bytes[a.c + 1]? with
      | none => s.raiseOob
      | some n => if n = 0#8 then s.deliverPayload { a with c := a.c + 2 } [] a.merges
        else s.resume { a with c := a.c + 2, phase := .peek (n.toNat - 1) }) := by
  rw [State.payloadComposite, State.atPayload_of h, rd8_eq]
  cases s.buf.bytes[a.c + 1]? with
  | none => rfl
  | some n =>
    by_cases hn : n = 0#8
    · rw [hn]
      rfl
    · obtain ⟨more, hmore⟩ := Nat.exists_eq_succ_of_ne_zero fun h0 => hn (BitVec.eq_of_toNat_eq h0)
      simp only [hn, if_false, hmore]
      rfl

/-- R352: a composite value by its count. -/
theorem State.valueComposite_of {kv : Keyed} {calls : List SeqFrame} (h : s.standsAt a (.value kv calls)) :
    s.valueComposite = .next (match s.buf.bytes[a.c + 1]? with
      | none => s.raiseOob
      | some n => if n = 0#8 then s.deliverValue { a with c := a.c + 2 } kv (.seq .nil) calls
        else s.resume { a with c := a.c + 2, phase := .value kv ({ left := n.toNat - 1, items := [] } :: calls) }) := by
  rw [State.valueComposite, State.atValue_of h, rd8_eq]
  cases s.buf.bytes[a.c + 1]? with
  | none => rfl
  | some n =>
    by_cases hn : n = 0#8
    · rw [hn]
      rfl
    · obtain ⟨left, hleft⟩ := Nat.exists_eq_succ_of_ne_zero fun h0 => hn (BitVec.eq_of_toNat_eq h0)
      simp only [hn, if_false, hleft]
      rfl

/-- R82, R362: a string whose length byte is missing, or whose bytes run past the end. -/
theorem readString_eq_none {view : List Byte} {addr : Nat}
    (h : view[addr]? = none ∨ ∃ n : Byte, view[addr]? = some n ∧ view.length < addr + 1 + n.toNat) :
    readString view addr = none := by
  rw [readString, rd8_eq]
  rcases h with h | ⟨n, h, hlt⟩
  · rw [h, Option.bind_none]
  · rw [h, Option.bind_some, memRead_eq_none.mpr hlt]

/-- R304, R305: a string in BUF is the key, and the cursor is past it. -/
theorem State.payloadStringKey_of {more : Nat} (h : s.standsAt a (.peek more)) {n : Byte}
    (hn : s.buf.bytes[a.c + 1]? = some n) (hle : a.c + 2 + n.toNat ≤ s.buf.size) (keyOf : List Byte → Text) :
    s.payloadStringKey keyOf = .next (s.beginKeyed { a with c := a.c + 2 + n.toNat }
      (keyOf ((s.buf.bytes.drop (a.c + 2)).take n.toNat)) more) := by
  rw [← Memory.length_bytes] at hle
  have hlen : ((s.buf.bytes.drop (a.c + 2)).take n.toNat).length = n.toNat := by
    rw [List.length_take, List.length_drop]
    omega
  rw [State.payloadStringKey, State.atPeek_of h, readString_of_le hn hle]
  dsimp only
  rw [hlen]

/-- R82: a key string past the end of BUF. -/
theorem State.payloadStringKey_of_none {more : Nat} (h : s.standsAt a (.peek more))
    (hread : readString s.buf.bytes (a.c + 1) = none) (keyOf : List Byte → Text) :
    s.payloadStringKey keyOf = .next s.raiseOob := by
  rw [State.payloadStringKey, State.atPeek_of h, hread]

/-! ### Bodies past the end of BUF -/

section
variable {kv : Keyed} {calls : List SeqFrame} (h : s.standsAt a (.value kv calls))
include h

theorem State.valueOfBytes_of_lt {n : Nat} (hn : s.buf.size < a.c + 1 + n) (mk : List Byte → Value) :
    s.valueOfBytes n mk = .next s.raiseOob := by
  rw [← Memory.length_bytes] at hn
  rw [State.valueOfBytes, State.atValue_of h, memRead_eq_none.mpr hn]

theorem State.valueOfByte_of_none (hb : s.buf.bytes[a.c + 1]? = none) (mk : Byte → Value) :
    s.valueOfByte mk = .next s.raiseOob := by
  rw [State.valueOfByte, State.atValue_of h, rd8_eq, hb]

theorem State.valueString_of_none (hread : readString s.buf.bytes (a.c + 1) = none) (mk : List Byte → Value) :
    s.valueString mk = .next s.raiseOob := by
  rw [State.valueString, State.atValue_of h, hread]

theorem State.valueComposite_of_none (hb : s.buf.bytes[a.c + 1]? = none) : s.valueComposite = .next s.raiseOob := by
  rw [State.valueComposite_of h, hb]

end
end

/-! ### The mapping -/

/-- R316: a new key is appended. -/
theorem insertEntry_of_not_mem {m : Payload} {k : Text} (h : k ∉ m.map Entry.key) (v : List Value) :
    insertEntry m k v = m ++ [{ key := k, vals := v }] := by
  induction m with
  | nil => rfl
  | cons e rest ih =>
    rw [List.map_cons, List.mem_cons, not_or] at h
    rw [insertEntry, if_neg (Ne.symm h.1), ih h.2, List.cons_append]

/-- R316, D19: a known key keeps its place. -/
theorem insertEntry_of_mem {before : Payload} {k : Text} (h : k ∉ before.map Entry.key) (after : Payload)
    (old v : List Value) :
    insertEntry (before ++ { key := k, vals := old } :: after) k v = before ++ { key := k, vals := v } :: after := by
  induction before with
  | nil => rw [List.nil_append, insertEntry, if_pos rfl, List.nil_append]
  | cons e rest ih =>
    rw [List.map_cons, List.mem_cons, not_or] at h
    rw [List.cons_append, insertEntry, if_neg (Ne.symm h.1), ih h.2, List.cons_append]

theorem nodup_keys_mergeEntries {m : Payload} (h : (m.map Entry.key).Nodup) (p : Payload) :
    ((mergeEntries m p).map Entry.key).Nodup := by
  induction p generalizing m with
  | nil => exact h
  | cons e rest ih => exact ih (nodup_keys_insertEntry h e.key e.vals)

/-! ### Numerals -/

theorem toNat_hexDigit {n : Nat} (h : n < 16) :
    (hexDigit n).toNat = if n < 10 then 0x30 + n else 0x61 + (n - 10) := by
  rw [hexDigit, BitVec.toNat_ofNat]
  split <;> omega

theorem decDigits_of_lt {fuel n : Nat} (h : n < 10) : decDigits (fuel + 1) n = [hexDigit n] :=
  if_pos h

theorem decDigits_of_ge {fuel n : Nat} (h : 10 ≤ n) :
    decDigits (fuel + 1) n = decDigits fuel (n / 10) ++ [hexDigit (n % 10)] :=
  if_neg (Nat.not_lt.mpr h)

/-- The number that decimal digits stand for. -/
def readDecimal (ds : Text) : Nat := ds.foldl (fun acc d => acc * 10 + (d.toNat - 0x30)) 0

theorem readDecimal_append_one (ds : Text) (d : Byte) :
    readDecimal (ds ++ [d]) = readDecimal ds * 10 + (d.toNat - 0x30) := by
  rw [readDecimal, List.foldl_append]
  rfl

/-- What makes digits the shortest numeral of a number. -/
structure ShortestNumeral (n : Nat) (ds : Text) : Prop where
  reads : readDecimal ds = n
  digits : ∀ d ∈ ds, 0x30 ≤ d.toNat ∧ d.toNat ≤ 0x39
  nonempty : ds ≠ []
  leading : ds.head? = some 0x30#8 → n = 0 ∧ ds = [0x30#8]

/-- R25: with fuel above the number, the digits are its shortest numeral. -/
theorem decDigits_shortest {fuel n : Nat} (h : n < fuel) : ShortestNumeral n (decDigits fuel n) := by
  induction fuel generalizing n with
  | zero => omega
  | succ fuel ih =>
    rcases Nat.lt_or_ge n 10 with hn | hn
    · have hd : (hexDigit n).toNat = 0x30 + n := by rw [toNat_hexDigit (by omega), if_pos hn]
      rw [decDigits_of_lt hn]
      refine ⟨?_, ?_, List.cons_ne_nil _ _, fun hhead => ?_⟩
      · simp [readDecimal, hd]
      · simp only [List.mem_singleton, forall_eq]
        omega
      · have hzero : hexDigit n = 0x30#8 := Option.some.inj hhead
        rw [hzero] at hd
        have hn0 : n = 0 := by simpa using hd
        exact ⟨hn0, by rw [hzero]⟩
    · obtain ⟨hreads, hdigits, hnonempty, hleading⟩ := ih (n := n / 10) (by omega)
      have hd : (hexDigit (n % 10)).toNat = 0x30 + n % 10 := by rw [toNat_hexDigit (by omega), if_pos (by omega)]
      rw [decDigits_of_ge hn]
      refine ⟨?_, ?_, by simp, fun hhead => ?_⟩
      · rw [readDecimal_append_one, hreads, hd]
        omega
      · intro d hmem
        rcases List.mem_append.mp hmem with hmem | hmem
        · exact hdigits d hmem
        · rw [List.mem_singleton.mp hmem]
          omega
      · rw [List.head?_append_of_ne_nil _ hnonempty] at hhead
        have hzero := (hleading hhead).1
        omega

theorem decNat_shortest (n : Nat) : ShortestNumeral n (decNat n) :=
  decDigits_shortest (Nat.lt_succ_self n)

theorem decNat_of_lt {n : Nat} (h : n < 10) : decNat n = [hexDigit n] :=
  decDigits_of_lt h

/-- R25: a natural number has no sign. -/
theorem dec_natCast (n : Nat) : dec n = decNat n := by
  rw [dec, if_neg (Int.not_lt.mpr (Int.natCast_nonneg n)), Int.natAbs_natCast]

theorem dec_neg_natCast {n : Nat} (h : 0 < n) : dec (-(n : Int)) = 0x2D#8 :: decNat n := by
  rw [dec, if_pos (by omega), Int.natAbs_neg, Int.natAbs_natCast]

theorem hex_cons (b : Byte) (bs : List Byte) :
    hex (b :: bs) = hexDigit (b.toNat / 16) :: hexDigit (b.toNat % 16) :: hex bs := rfl

/-! ### OBIS and CLOCK texts -/

theorem obisFrom_append_one (i : Nat) (bs : List Byte) (b : Byte) :
    obisFrom i (bs ++ [b]) = obisFrom i bs ++ obisSeparator (i + bs.length) ++ decNat b.toNat := by
  induction bs generalizing i with
  | nil => simp [obisFrom]
  | cons d bs ih =>
    have hidx : i + 1 + bs.length = i + (d :: bs).length := by
      rw [List.length_cons]
      omega
    simp only [List.cons_append, obisFrom, ih, hidx, List.append_assoc]

/-- R17: the clock key is the OBIS text of 0-0:1.0.0.255. -/
theorem obis_clockKey : obis [0#8, 0#8, 1#8, 0#8, 0#8, 255#8] = Config.params.clockKey := by
  decide

/-- R314: exactly the 12 octets have a clock text. -/
theorem clockText_isSome {b : List Byte} {t : Text} (h : clockText b = some t) : b.length = 12 := by
  unfold clockText at h
  split at h
  · rfl
  · contradiction

/-! ### Multi-byte operands -/

/-- R23: one more byte at the high end. -/
theorem be_cons (b : Byte) (bs : List Byte) : be (b :: bs) = b.toNat * 256 ^ bs.length + be bs := by
  induction bs using List.reverseRecOn with
  | nil => simp [be]
  | append_singleton bs d ih =>
    rw [← List.cons_append, be_append_one, be_append_one, ih, List.length_append, List.length_singleton, Nat.pow_succ]
    ring

/-- R23: `be` is the positional value. -/
theorem be_eq_sum (bs : List Byte) :
    be bs = ((List.range bs.length).map fun i => (bs.getD i 0#8).toNat * 256 ^ (bs.length - 1 - i)).sum := by
  induction bs with
  | nil => rfl
  | cons b bs ih =>
    rw [be_cons, ih, List.length_cons, List.range_succ_eq_map, List.map_cons, List.sum_cons, List.map_map]
    simp [Function.comp_def, Nat.sub_sub, Nat.add_comm]

theorem toNat_le16 (b0 b1 : Byte) : (le16 b0 b1).toNat = b0.toNat + 256 * b1.toNat := by
  rw [le16, BitVec.toNat_append, ← Nat.shiftLeft_add_eq_or_of_lt b0.isLt, Nat.shiftLeft_eq]
  omega

/-- R130: one more address byte is the sum modulo 2^32. -/
theorem toNat_accumulateAddress (acc : BitVec 32) (b : Byte) :
    (accumulateAddress acc b).toNat = (acc.toNat * 256 + b.toNat) % 2 ^ 32 := by
  have hb := b.isLt
  have hshift : acc.toNat <<< 8 % 2 ^ 32 = (acc.toNat % 2 ^ 24) <<< 8 := by
    rw [Nat.shiftLeft_eq, Nat.shiftLeft_eq]
    omega
  have hbyte : b.toNat % 2 ^ 32 = b.toNat := Nat.mod_eq_of_lt (by omega)
  rw [accumulateAddress, BitVec.toNat_or, BitVec.toNat_shiftLeft, BitVec.toNat_setWidth, hshift, hbyte,
    ← Nat.shiftLeft_add_eq_or_of_lt hb, Nat.shiftLeft_eq]
  omega

/-- R130, D10: up to the fourth byte nothing is discarded. -/
theorem toNat_foldl_accumulateAddress {bs : List Byte} (h : bs.length ≤ 4) :
    (bs.foldl accumulateAddress 0#32).toNat = be bs := by
  induction bs using List.reverseRecOn with
  | nil => rfl
  | append_singleton bs b ih =>
    have hlen : bs.length ≤ 4 := by
      rw [List.length_append] at h
      omega
    have hlt : be (bs ++ [b]) < 2 ^ 32 :=
      (be_lt _).trans_le ((Nat.pow_le_pow_right (by decide) h).trans_eq (by decide))
    rw [List.foldl_append, List.foldl_cons, List.foldl_nil, toNat_accumulateAddress, ih hlen, ← be_append_one,
      Nat.mod_eq_of_lt hlt]

/-- The bit of a byte in the arithmetic of the spec. -/
theorem getLsbD_eq_decide (b : Byte) (k : Nat) : b.getLsbD k = decide (b.toNat / 2 ^ k % 2 = 1) := by
  rw [BitVec.getLsbD, Nat.testBit_eq_decide_div_mod_eq]

/-- R367: the character of bit `7 - i`. -/
theorem getElem?_bitText (n : Byte) {i : Nat} (h : i < 8) :
    (bitText n)[i]? = some (if n.toNat / 2 ^ (7 - i) % 2 = 1 then 0x31#8 else 0x30#8) := by
  rw [bitText, List.getElem?_map, List.getElem?_range h, Option.map_some, getLsbD_eq_decide]
  simp only [decide_eq_true_eq]

/-- R363: printable ASCII is its own text. -/
theorem visibleText_of_printable {bs : List Byte} (h : ∀ b ∈ bs, 0x20 ≤ b.toNat ∧ b.toNat ≤ 0x7E) : visibleText bs = bs := by
  have hall : bs.all printable = true := List.all_eq_true.mpr fun b hb => by
    rw [printable, Bool.and_eq_true, decide_eq_true_eq, decide_eq_true_eq]
    exact h b hb
  rw [visibleText, if_pos hall]

/-! ### The obligations -/

/-- Settles O38: both composite rows are one operation, and PD_COMPACT is the failing one. -/
theorem payloadCompositeReadsCount : Obligations.PayloadCompositeReadsCount := by
  intro s a h
  refine ⟨fun row hrow => ?_, State.payloadFail_of h⟩
  have hexec : exec row s = s.payloadComposite := by
    simp only [List.mem_cons, List.not_mem_nil, or_false] at hrow
    obtain rfl | rfl := hrow
    · rfl
    · rfl
  rw [hexec, State.payloadComposite_of h]
  refine ⟨fun hn => ?_, fun n hn hne => ?_, fun hn => ?_⟩
  · rw [hn]
    rfl
  · simp only [hn, hne, if_false]
    rfl
  · simp only [hn, State.raiseOob_eq]

/-- Settles O41: both string keys are one operation, which answers on whether the string lies in BUF. -/
theorem stringFirstElementIsKey : Obligations.StringFirstElementIsKey := by
  intro s a more h
  refine ⟨fun n hn hle => ⟨State.payloadStringKey_of h hn hle _, State.payloadStringKey_of h hn hle obis⟩, fun hpast => ?_⟩
  simp only [← Memory.length_bytes] at hpast
  rw [← State.raiseOob_eq]
  exact ⟨State.payloadStringKey_of_none h (readString_eq_none hpast) _,
    State.payloadStringKey_of_none h (readString_eq_none hpast) obis⟩

/-- Settles O43: the equations of the three operations, one for each count. -/
theorem valuesReturnToCaller : Obligations.ValuesReturnToCaller :=
  fun _ _ _ _ _ _ _ _ _ => ⟨rfl, rfl, rfl, rfl, rfl, rfl⟩

/-- Settles O44: the snoc recursion of the formatter, whose separator is the one of its index. -/
theorem obisTextPattern : Obligations.ObisTextPattern := by
  refine ⟨rfl, fun bs b => ?_⟩
  rw [obis, obisFrom_append_one, dec_natCast, Nat.zero_add]
  rfl

/-- Settles O45: CLASS3 on its shape by evaluation, and its two cases on any list. -/
theorem class3ScalesItsShapeOnly : Obligations.Class3ScalesItsShapeOnly := by
  refine ⟨fun _ _ _ _ _ => rfl, fun vals => ?_⟩
  obtain h | ⟨k, v, k', e, unit, h, _⟩ := class3_cases vals
  · exact .inl h
  · exact .inr ⟨k, k', v, e, unit, h⟩

/-- Settles O46: the clock text of 12 octets byte by byte, and CLOCK's two cases on any list. -/
theorem clockReformatsItsKeyOnly : Obligations.ClockReformatsItsKeyOnly := by
  rw [Obligations.ClockReformatsItsKeyOnly, obis_clockKey]
  refine ⟨fun b rest hb => ?_, fun key vals => ?_⟩
  · match b, hb with
    | [y1, y0, month, day, _, hour, minute, second, _, _, _, _], _ =>
      rw [dec_natCast]
      simp only [clock, clockText, if_pos, List.append_assoc, List.cons_append, List.nil_append]
      rfl
  · obtain h | ⟨b, rest, t, hkey, hvals, ht, _⟩ := clock_cases key vals
    · exact .inl h
    · exact .inr ⟨hkey, b, rest, hvals, clockText_isSome ht⟩

/-- Settles O47: CLOCK changes a list only if it starts with octets, which CLASS3 leaves, and what it answers CLASS3
leaves too. -/
theorem clockAndClass3Commute : Obligations.ClockAndClass3Commute := by
  intro key vals
  obtain hclock | ⟨b, rest, t, _, rfl, _, hclock⟩ := clock_cases key vals
  · obtain hclass | ⟨k, v, k', e, unit, rfl, hclass⟩ := class3_cases vals
    · exact ⟨.inl hclock, by rw [hclock, hclass, hclock]⟩
    · exact ⟨.inl hclock, by rw [hclock, hclass]; rfl⟩
  · have hclass : class3 (.octets b :: rest) = .octets b :: rest := rfl
    exact ⟨.inr hclass, by rw [hclock, hclass, hclock]; rfl⟩

/-- Settles O48: INSERT by whether the key is known, and merging by induction on the entries inserted. -/
theorem insertReplacesInPlace : Obligations.InsertReplacesInPlace :=
  ⟨fun _ _ v h => insertEntry_of_not_mem h v, fun _ after _ old v h => insertEntry_of_mem h after old v,
    fun _ p h => nodup_keys_mergeEntries h p⟩

/-- Settles O49: null by its position, both composite rows by the shared operation's count. -/
theorem nullAndCompositeRows : Obligations.NullAndCompositeRows := by
  intro s a kv calls h
  refine ⟨State.atValue_of h _, fun row hrow => ?_⟩
  have hexec : exec row s = s.valueComposite := by
    simp only [List.mem_cons, List.not_mem_nil, or_false] at hrow
    obtain rfl | rfl := hrow
    · rfl
    · rfl
  rw [hexec, State.valueComposite_of h]
  refine ⟨fun hn => ?_, fun n hn hne => ?_⟩
  · rw [hn]
    rfl
  · simp only [hn, hne, if_false]
    rfl

/-- Settles O51: each operand's assembly as a sum. -/
theorem multiByteAssembly : Obligations.MultiByteAssembly :=
  ⟨be_eq_sum, toNat_le16, toNat_accumulateAddress, fun _ h => toNat_foldl_accumulateAddress h⟩

/-- Settles O54: the string rows and the one-byte rows are the shared operations; the texts are by the definitions. -/
theorem textBitStringAndBcdRows : Obligations.TextBitStringAndBcdRows := by
  intro s a kv calls n h hn
  refine ⟨fun hle => ⟨State.valueString_of h hn hle _, State.valueString_of h hn hle _, fun hascii => ?_⟩,
    State.valueOfByte_of h hn _, State.valueOfByte_of h hn _, fun i hi => getElem?_bitText n hi, ?_, rfl, rfl⟩
  · exact congrArg some (visibleText_of_printable hascii)
  · simp [bitText]

/-- Settles O57: every read of a body is one of four, and each answers DECODE_OOB past the end. -/
theorem bodyPastEndIsOutOfBounds : Obligations.BodyPastEndIsOutOfBounds := by
  intro s a kv calls row h
  rw [← State.raiseOob_eq]
  refine ⟨fun n hrow hlt => ?_, fun n hrow hn hlt => ?_⟩
  · have hnone : n = 1 → s.buf.bytes[a.c + 1]? = none := by
      rintro rfl
      rw [List.getElem?_eq_none_iff, Memory.length_bytes]
      omega
    cases row
    all_goals
      simp only [List.mem_cons, Prod.mk.injEq, reduceCtorEq, false_and, true_and, List.not_mem_nil, or_false,
        false_or] at hrow
    case vd3 | vd4 | vd13 | vd22 => exact State.valueOfByte_of_none h (hnone hrow) _
    case vd1 | vd2 => exact State.valueComposite_of_none h (hnone hrow)
    case vd9 | vd10 | vd12 => exact State.valueString_of_none h (readString_eq_none (.inl (hnone hrow))) _
    all_goals
      subst hrow
      exact State.valueOfBytes_of_lt h hlt _
  · have hread : readString s.buf.bytes (a.c + 1) = none :=
      readString_eq_none (.inr ⟨n, hn, by rw [Memory.length_bytes]; exact hlt⟩)
    simp only [List.mem_cons, List.not_mem_nil, or_false] at hrow
    obtain rfl | rfl | rfl := hrow
    all_goals exact State.valueString_of_none h hread _

/-- Settles O58: the pinned codes by evaluation, the unmapped ones past the three symbols. -/
theorem unitTablePinnedCodes : Obligations.UnitTablePinnedCodes := by
  refine ⟨rfl, rfl, rfl, fun code hcode => ?_⟩
  have hnone : unitTable code = none := by
    have h1 : code ≠ 1#8 ∧ code ≠ 27#8 ∧ code ≠ 44#8 := by
      refine ⟨?_, ?_, ?_⟩ <;> rintro rfl <;> revert hcode <;> decide
    have h0 : code = 0#8 ∨ code.toNat ≥ 73 := hcode.imp_left fun h => BitVec.eq_of_toNat_eq h
    rw [unitTable, if_neg h1.1, if_neg h1.2.1, if_neg h1.2.2, if_pos h0]
  exact ⟨hnone, unitSymbol_of_none hnone⟩

/-- Settles O59: the digits by induction on their budget, the other two functions by their equations. -/
theorem numeralRenderingIsExact : Obligations.NumeralRenderingIsExact := by
  refine ⟨fun n => ?_, fun n => ⟨dec_natCast n, dec_neg_natCast⟩, ⟨rfl, fun b bs => ?_⟩, fun n hn => ?_, fun n hn => ?_⟩
  · obtain ⟨hreads, hdigits, hnonempty, hleading⟩ := decNat_shortest n
    exact ⟨hreads, hdigits, hnonempty, hleading⟩
  · have hb := b.isLt
    exact ⟨_, _, hex_cons b bs, toNat_hexDigit (by omega), toNat_hexDigit (by omega)⟩
  · have hd : (hexDigit n).toNat = 0x30 + n := by rw [toNat_hexDigit (by omega), if_pos (by omega)]
    exact ⟨hexDigit n, by rw [pad2, if_pos hn, decNat_of_lt (by omega)], hd⟩
  · rw [pad2, if_neg (by omega)]

end Sys2Proof.Machine
end

section
/-! PROOFS. The decoders as recursive functions (42_payload_decoder.md R300; 43_axdr_value_decoder.md R350;
41_frame_sync.md R248): the byte rows of an attempt lead where the spec's pseudocode answers, by induction on its budget. -/

namespace Sys2Proof.Machine

/-! ### The rows of an attempt, one after another -/

/-- Some number of byte rows leads an attempt from one state to another. -/
inductive Leads : State → State → Prop where
  | refl (s : State) : Leads s s
  | row {s t u : State} {a : Attempt} (ha : s.attempt = some a) (hstep : s.attemptStep a = .next t) (h : Leads t u) :
      Leads s u

theorem Leads.trans {s t u : State} (h : Leads s t) (h' : Leads t u) : Leads s u := by
  induction h with
  | refl => exact h'
  | row ha hstep _ ih => exact .row ha hstep (ih h')

/-- An attempt that runs to an end runs to the one that its rows lead to. -/
theorem Leads.eq_of_runAttempt {s t u : State} (h : Leads s t) (ht : t.attempt = none) {n : Nat}
    (hrun : runAttempt n s = .next u) : t = u := by
  induction h generalizing n with
  | refl s => cases n <;> simpa [runAttempt, ht] using hrun
  | row ha hstep _ ih =>
    cases n with
    | zero => simp [runAttempt, ha] at hrun
    | succ n =>
      simp only [runAttempt, ha, hstep] at hrun
      exact ih ht hrun

section
variable {s t : State} {a : Attempt}

/-- A row that the attempt reads and that answers `t`. -/
theorem Leads.of_exec {i : Instr} {rest : List Byte} (hp : a.phase ≠ .flag)
    (hdecode : decodeAt a.phase.position (s.buf.bytes.drop a.c) = .ok (i, rest)) (ht : exec i (s.resume a) = .next t) :
    Leads (s.resume a) t := by
  have hfetch : (s.resume a).fetch a = .instr i a := State.fetch_of_ok hp hdecode
  refine .row rfl ?_ (.refl t)
  rw [← State.afterFetch_exec_fetch, hfetch]
  exact ht

/-- A row of one byte that the attempt reads and that answers `t`. -/
theorem Leads.of_byte {p : Position} {b : Byte} (hp : a.phase.position = p) (hflag : p ≠ .flag) (hformat : p ≠ .format)
    (hb : s.buf.bytes[a.c]? = some b) (ht : exec (byteInstr p b) (s.resume a) = .next t) : Leads (s.resume a) t := by
  obtain ⟨hlt, hget⟩ := List.getElem?_eq_some_iff.mp hb
  have hphase : a.phase ≠ .flag := by
    intro h
    rw [h] at hp
    exact hflag hp.symm
  refine .of_exec (rest := s.buf.bytes.drop (a.c + 1)) hphase ?_ ht
  rw [List.drop_eq_getElem_cons hlt, hget, hp]
  exact decodeAt_of_byte hflag hformat b _

/-- R82: past the end of BUF the attempt ends with DECODE_OOB. -/
theorem Leads.of_pastEnd (hp : a.phase ≠ .flag) (hc : s.buf.bytes[a.c]? = none) : Leads (s.resume a) s.raiseOob := by
  have hdrop : s.buf.bytes.drop a.c = [] := List.drop_eq_nil_of_le (List.getElem?_eq_none_iff.mp hc)
  have hfetch : (s.resume a).fetch a = .outOfBounds :=
    State.fetch_of_error (e := .endOfBuffer) hp (by rw [State.resume_buf, hdrop]; rfl)
  refine .row rfl ?_ (.refl _)
  rw [← State.afterFetch_exec_fetch, hfetch]
  rfl

end

/-! ### Where a decoder's answer lands -/

/-- The state that a decoder's answer leads to: what follows its success, or the end of the attempt. -/
def Decoded.land {α : Type} (s : State) (r : Decoded α) (next : α → Nat → State) : State :=
  match r with
  | .ok v c => next v c
  | .fail c => s.raiseFail c
  | .oob => s.raiseOob

section
variable {α β : Type} {s : State}

@[simp] theorem Decoded.land_ok (v : α) (c : Nat) (next : α → Nat → State) :
    (Decoded.ok v c).land s next = next v c := rfl

@[simp] theorem Decoded.land_fail (c : Nat) (next : α → Nat → State) :
    (Decoded.fail c).land s next = s.raiseFail c := rfl

@[simp] theorem Decoded.land_oob (next : α → Nat → State) : Decoded.oob.land s next = s.raiseOob := rfl

@[simp] theorem Decoded.andThen_ok (v : α) (c : Nat) (k : α → Nat → Decoded β) : (Decoded.ok v c).andThen k = k v c := rfl

/-- R24: a callee's failure is the caller's. -/
@[simp] theorem Decoded.land_andThen (r : Decoded α) (k : α → Nat → Decoded β) (next : β → Nat → State) :
    (r.andThen k).land s next = r.land s fun v c => (k v c).land s next := by
  cases r <;> rfl

/-- What follows a success is led on to what follows that. -/
theorem Leads.land {t : State} {r : Decoded α} {next next' : α → Nat → State} (h : Leads t (r.land s next))
    (hnext : ∀ v c, r = .ok v c → Leads (next v c) (next' v c)) : Leads t (r.land s next') := by
  cases r with
  | ok v c => exact h.trans (hnext v c rfl)
  | fail c => exact h
  | oob => exact h

end

/-! ### Reads -/

section
variable {view : List Byte} {c : Nat}

theorem byteRef_of_some {b : Byte} (h : view[c]? = some b) : byteRef view c = .ok b (c + 1) := by
  rw [byteRef, rd8_eq, h]

theorem byteRef_of_none (h : view[c]? = none) : byteRef view c = .oob := by
  rw [byteRef, rd8_eq, h]

theorem land_readRef (s : State) (n : Nat) (next : List Byte → Nat → State) :
    (readRef view c n).land s next = match memRead view c n with
      | none => s.raiseOob
      | some bs => next bs (c + n) := by
  unfold readRef
  cases memRead view c n <;> rfl

theorem land_byteRef (s : State) (next : Byte → Nat → State) :
    (byteRef view c).land s next = match rd8 view c with
      | none => s.raiseOob
      | some b => next b (c + 1) := by
  unfold byteRef
  cases rd8 view c <;> rfl

/-- R362: the cursor after a string is past its length byte and its bytes. -/
theorem land_stringRef (s : State) (next : List Byte → Nat → State) :
    (stringRef view c).land s next = match readString view c with
      | none => s.raiseOob
      | some bs => next bs (c + 1 + bs.length) := by
  rw [stringRef, Decoded.land_andThen, land_byteRef, readString]
  cases rd8 view c with
  | none => rfl
  | some len =>
    simp only [land_readRef, Option.bind_some]
    cases hread : memRead view (c + 1) len.toNat with
    | none => rfl
    | some bs =>
      have hlen := memRead_length hread
      simp only [hlen]

end

/-! ### Cursors never move back -/

/-- A success of the decoder is not before `c`. -/
def Decoded.From {α : Type} (c : Nat) (r : Decoded α) : Prop := ∀ v c', r = .ok v c' → c ≤ c'

section
variable {α β : Type} {view : List Byte} {c : Nat}

theorem Decoded.from_ok {v : α} {c' : Nat} (h : c ≤ c') : (Decoded.ok v c').From c := by
  rintro _ _ ⟨⟩
  exact h

theorem Decoded.from_fail {c' : Nat} : (Decoded.fail c' : Decoded α).From c := nofun

theorem Decoded.from_oob : (Decoded.oob : Decoded α).From c := nofun

theorem Decoded.from_andThen {r : Decoded α} {k : α → Nat → Decoded β} (hr : r.From c)
    (hk : ∀ v c', (k v c').From c') : (r.andThen k).From c := by
  cases r with
  | ok v c' => exact fun w c'' h => (hr v c' rfl).trans (hk v c' w c'' h)
  | fail c' => exact Decoded.from_fail
  | oob => exact Decoded.from_oob

theorem from_readRef (n : Nat) : (readRef view c n).From c := by
  unfold readRef
  split
  · exact Decoded.from_oob
  · exact Decoded.from_ok (Nat.le_add_right c n)

theorem from_byteRef : (byteRef view c).From c := by
  unfold byteRef
  split
  · exact Decoded.from_oob
  · exact Decoded.from_ok (Nat.le_succ c)

theorem from_stringRef : (stringRef view c).From c :=
  Decoded.from_andThen from_byteRef fun len _ => from_readRef len.toNat

theorem from_valuesRef {vd : Nat → Decoded Value} (hvd : ∀ c, (vd c).From c) (n c : Nat) : (valuesRef vd n c).From c := by
  induction n generalizing c with
  | zero => exact Decoded.from_ok (Nat.le_refl c)
  | succ n ih =>
    exact Decoded.from_andThen (hvd c) fun v c' =>
      Decoded.from_andThen (ih c') fun vs c'' => Decoded.from_ok (Nat.le_refl c'')

end

/-! ### The forms of a value -/

/-- What follows a value's tag (R351-R376). -/
inductive ValueForm where
  | null
  | composite
  | byte (mk : Byte → Value)
  | bytes (n : Nat) (mk : List Byte → Value)
  | string (mk : List Byte → Value)
  | unsupported

/-- An integer's body is the bytes of its width (R355). -/
def ValueForm.int (k : IntKind) : ValueForm := .bytes (intWidth k) fun bs => .int k (intOfBytes k bs)

/-- The form of each tag. -/
def valueForm (t : Byte) : ValueForm :=
  match t.toNat with
  | 0 => .null
  | 1 => .composite
  | 2 => .composite
  | 3 => .byte fun b => .bool (b != 0#8)
  | 4 => .byte .bits
  | 5 => .int .i32
  | 6 => .int .u32
  | 9 => .string .octets
  | 10 => .string .visible
  | 12 => .string .utf8
  | 13 => .byte .bcd
  | 15 => .int .i8
  | 16 => .int .i16
  | 17 => .int .u8
  | 18 => .int .u16
  | 20 => .int .i64
  | 21 => .int .u64
  | 22 => .byte fun code => .unit (unitSymbol code)
  | 25 => .bytes 12 .datetime
  | 26 => .bytes 5 .date
  | 27 => .bytes 4 .time
  | _ => .unsupported

/-- The row of a form. -/
def ValueForm.exec (s : State) : ValueForm → Host.Outcome State Fault Refusal
  | .null => execVd0 s
  | .composite => s.valueComposite
  | .byte mk => s.valueOfByte mk
  | .bytes n mk => s.valueOfBytes n mk
  | .string mk => s.valueString mk
  | .unsupported => s.valueFail

/-- The pseudocode of a form, with the cursor after the tag. -/
def ValueForm.ref (view : List Byte) (budget c : Nat) : ValueForm → Decoded Value
  | .null => .ok .null c
  | .composite =>
    (byteRef view c).andThen fun n c =>
      (valuesRef (valueRef view budget) n.toNat c).andThen fun vs c => .ok (.seq (ValueSeq.ofList vs)) c
  | .byte mk => (byteRef view c).andThen fun b c => .ok (mk b) c
  | .bytes n mk => (readRef view c n).andThen fun bs c => .ok (mk bs) c
  | .string mk => (stringRef view c).andThen fun bs c => .ok (mk bs) c
  | .unsupported => .fail c

theorem valueForm_of_large {t : Byte} (h : 28 ≤ t.toNat) : valueForm t = .unsupported := by
  unfold valueForm
  split
  case h_22 => rfl
  all_goals omega

/-- The row that stands at a tag is the row of the tag's form. -/
theorem exec_of_encode_value {row : Instr} {t : Byte} (h : encode row = .bytes .value [t]) (s : State) :
    exec row s = (valueForm t).exec s := by
  cases row
  case vdOther1C1F low =>
    have hlarge : ∀ low : BitVec 2, 28 ≤ (classByte 0x1C#8 low).toNat := by decide
    cases h
    rw [valueForm_of_large (hlarge low)]
    rfl
  case vdOther203F low =>
    have hlarge : ∀ low : BitVec 5, 28 ≤ (classByte 0x20#8 low).toNat := by decide
    cases h
    rw [valueForm_of_large (hlarge low)]
    rfl
  case vdOther407F low =>
    have hlarge : ∀ low : BitVec 6, 28 ≤ (classByte 0x40#8 low).toNat := by decide
    cases h
    rw [valueForm_of_large (hlarge low)]
    rfl
  case vdOther80FF low =>
    have hlarge : ∀ low : BitVec 7, 28 ≤ (classByte 0x80#8 low).toNat := by decide +kernel
    cases h
    rw [valueForm_of_large (hlarge low)]
    rfl
  case vd0 | vd1 | vd2 | vd3 | vd4 | vd5 | vd6 | vd7 | vd8 | vd9 | vd10 | vd11 | vd12 | vd13 | vd14 | vd15 | vd16 | vd17
      | vd18 | vd19 | vd20 | vd21 | vd22 | vd23 | vd24 | vd25 | vd26 | vd27 =>
    cases h
    rfl
  all_goals cases h

/-- R350: VD is the pseudocode of the form of the tag it consumes. -/
theorem valueRef_succ (view : List Byte) (budget c : Nat) :
    valueRef view (budget + 1) c = (byteRef view c).andThen fun t c => (valueForm t).ref view budget c := by
  rw [valueRef]
  congr 1
  funext t c
  unfold valueForm
  generalize t.toNat = tag
  rcases Nat.lt_or_ge tag 28 with h | h
  · interval_cases tag <;> rfl
  · obtain ⟨k, rfl⟩ := Nat.exists_eq_add_of_le' h
    rfl

theorem from_valueRef (view : List Byte) (budget c : Nat) : (valueRef view budget c).From c := by
  induction budget generalizing c with
  | zero => exact Decoded.from_oob
  | succ budget ih =>
    rw [valueRef_succ]
    refine Decoded.from_andThen from_byteRef fun t c => ?_
    cases valueForm t with
    | null => exact Decoded.from_ok (Nat.le_refl c)
    | composite =>
      exact Decoded.from_andThen from_byteRef fun n c =>
        Decoded.from_andThen (from_valuesRef ih n.toNat c) fun vs c => Decoded.from_ok (Nat.le_refl c)
    | byte mk => exact Decoded.from_andThen from_byteRef fun b c => Decoded.from_ok (Nat.le_refl c)
    | bytes n mk => exact Decoded.from_andThen (from_readRef n) fun bs c => Decoded.from_ok (Nat.le_refl c)
    | string mk => exact Decoded.from_andThen from_stringRef fun bs c => Decoded.from_ok (Nat.le_refl c)
    | unsupported => exact Decoded.from_fail

/-! ### Delivery does not read the step -/

section
variable (s : State) (x a : Attempt) (ph : Phase)

/-- What a mapping's return leads to does not depend on the attempt that the state shows. -/
theorem State.deliverPayload_resume (ms : List MergeFrame) (p : Payload) :
    (s.resume x).deliverPayload a p ms = s.deliverPayload a p ms := by
  induction ms generalizing p with
  | nil => rfl
  | cons m ms ih =>
    unfold State.deliverPayload
    split
    · exact ih _
    · rfl

/-- Nor does it depend on the step and the callers that the attempt's registers show. -/
theorem State.deliverPayload_with (ms' ms : List MergeFrame) (p : Payload) :
    s.deliverPayload { a with phase := ph, merges := ms' } p ms = s.deliverPayload a p ms := by
  induction ms generalizing p with
  | nil => rfl
  | cons m ms ih =>
    unfold State.deliverPayload
    split
    · exact ih _
    · rfl

theorem State.finishKeyed_congr (key : Text) (vals : List Value) :
    (s.resume x).finishKeyed { a with phase := ph } key vals = s.finishKeyed a key vals :=
  (s.deliverPayload_resume x _ _ _).trans (s.deliverPayload_with a ph a.merges a.merges _)

theorem State.deliverValue_congr (kv : Keyed) (v : Value) (calls : List SeqFrame) :
    (s.resume x).deliverValue { a with phase := ph } kv v calls = s.deliverValue a kv v calls := by
  induction calls generalizing v with
  | nil =>
    unfold State.deliverValue
    split
    · exact s.finishKeyed_congr x a ph kv.key _
    · rfl
  | cons f fs ih =>
    unfold State.deliverValue
    split
    · exact ih _
    · rfl

end

/-! ### The Value Decoder -/

section
variable {s : State}

/-- A Value Decoder composite with `n` elements still to come and `items` so far, at the cursor `c` (R352). -/
def State.composite (s : State) (a : Attempt) (kv : Keyed) (calls : List SeqFrame) : Nat → List Value → Nat → State
  | 0, items, c => s.deliverValue { a with c := c } kv (.seq (ValueSeq.ofList items)) calls
  | n + 1, items, c => s.resume { a with c := c, phase := .value kv ({ left := n, items := items } :: calls) }

/-- A keyed composite with `n` values still to come and `vals` so far, at the cursor `c` (R308). -/
def State.keyedComposite (s : State) (a : Attempt) (key : Text) : Nat → List Value → Nat → State
  | 0, vals, c => s.finishKeyed { a with c := c } key vals
  | n + 1, vals, c => s.resume { a with c := c, phase := .value { key := key, left := n, vals := vals } [] }

/-- A call of VD at a value's tag leads where the pseudocode answers. -/
def LeadsValue (s : State) (budget : Nat) : Prop :=
  ∀ (a : Attempt) (c : Nat) (kv : Keyed) (calls : List SeqFrame), s.buf.bytes.length ≤ c + budget →
    Leads (s.resume { a with c := c, phase := .value kv calls })
      ((valueRef s.buf.bytes budget c).land s fun v c' => s.deliverValue { a with c := c' } kv v calls)

/-- R308, R352: values in a row, each delivered into `next`, which counts those still to come. -/
theorem leads_values {budget : Nat} {next : Nat → List Value → Nat → State}
    (hnext : ∀ n vs c, s.buf.bytes.length ≤ c + budget →
      Leads (next (n + 1) vs c) ((valueRef s.buf.bytes budget c).land s fun v c' => next n (vs ++ [v]) c'))
    (n : Nat) (vs : List Value) (c : Nat) (hc : s.buf.bytes.length ≤ c + budget) :
    Leads (next n vs c) ((valuesRef (valueRef s.buf.bytes budget) n c).land s fun ws c' => next 0 (vs ++ ws) c') := by
  induction n generalizing vs c with
  | zero =>
    rw [valuesRef, Decoded.land_ok, List.append_nil]
    exact .refl _
  | succ n ih =>
    simp only [valuesRef, Decoded.land_andThen, Decoded.land_ok]
    refine (hnext n vs c hc).land fun v c' hv => ?_
    have hle : c ≤ c' := from_valueRef s.buf.bytes budget c v c' hv
    have hrest := ih (vs ++ [v]) c' (by omega)
    simpa only [List.append_assoc, List.cons_append, List.nil_append] using hrest

section
variable {a : Attempt} {budget : Nat} (hv : LeadsValue s budget)
include hv

/-- R352: a composite's elements. -/
theorem leads_composite (kv : Keyed) (calls : List SeqFrame) (n c : Nat) (hc : s.buf.bytes.length ≤ c + budget) :
    Leads (s.composite a kv calls n [] c)
      ((valuesRef (valueRef s.buf.bytes budget) n c).land s fun vs c' =>
        s.deliverValue { a with c := c' } kv (.seq (ValueSeq.ofList vs)) calls) := by
  refine leads_values (next := s.composite a kv calls) (fun n vs c hc => ?_) n [] c hc
  refine (hv a c kv ({ left := n, items := vs } :: calls) hc).land fun v c' _ => ?_
  cases n with
  | zero => exact .refl _
  | succ n => exact .refl _

/-- R308: a keyed composite's values. -/
theorem leads_keyedComposite (key : Text) (n c : Nat) (hc : s.buf.bytes.length ≤ c + budget) :
    Leads (s.keyedComposite a key n [] c)
      ((valuesRef (valueRef s.buf.bytes budget) n c).land s fun vs c' => s.finishKeyed { a with c := c' } key vs) := by
  refine leads_values (next := s.keyedComposite a key) (fun n vs c hc => ?_) n [] c hc
  refine (hv a c { key := key, left := n, vals := vs } [] hc).land fun v c' _ => ?_
  cases n with
  | zero => exact .refl _
  | succ n => exact .refl _

/-- The row of a form, and for a composite the rows of its elements, lead where the form's pseudocode answers. -/
theorem leads_form {kv : Keyed} {calls : List SeqFrame} {c : Nat} {t : Byte} (ht : s.buf.bytes[c]? = some t)
    (hc : s.buf.bytes.length ≤ c + (budget + 1)) :
    Leads (s.resume { a with c := c, phase := .value kv calls })
      (((valueForm t).ref s.buf.bytes budget (c + 1)).land s fun v c' => s.deliverValue { a with c := c' } kv v calls) := by
  have hrow : ∀ {u : State}, (valueForm t).exec (s.resume { a with c := c, phase := .value kv calls }) = .next u →
      Leads (s.resume { a with c := c, phase := .value kv calls }) u := by
    intro u hu
    refine .of_byte (p := .value) rfl nofun nofun ht ?_
    rw [exec_of_encode_value (encode_byteInstr (p := .value) rfl).1]
    exact hu
  have hat : (s.resume { a with c := c, phase := .value kv calls }).standsAt
      { a with c := c, phase := .value kv calls } (.value kv calls) := ⟨rfl, rfl⟩
  have hdeliver : ∀ v c', (s.resume { a with c := c, phase := .value kv calls }).deliverValue
      { a with c := c', phase := .value kv calls } kv v calls = s.deliverValue { a with c := c' } kv v calls :=
    fun v c' => s.deliverValue_congr _ { a with c := c' } _ kv v calls
  cases hform : valueForm t with
  | null =>
    refine hrow ?_
    rw [hform, ValueForm.exec, execVd0, State.atValue_of hat]
    exact congrArg Host.Outcome.next (hdeliver .null (c + 1))
  | composite =>
    rw [ValueForm.ref, Decoded.land_andThen]
    refine Leads.land (next := fun n c' => s.composite a kv calls n.toNat [] c') (hrow ?_) fun n c' hn => ?_
    · rw [hform, land_byteRef, ValueForm.exec, State.valueComposite, State.atValue_of hat, State.resume_buf]
      refine congrArg Host.Outcome.next ?_
      cases rd8 s.buf.bytes (c + 1) with
      | none => rfl
      | some n =>
        dsimp only
        cases n.toNat with
        | zero => exact hdeliver _ (c + 2)
        | succ left => rfl
    · have hle : c + 1 ≤ c' := from_byteRef n c' hn
      simpa only [Decoded.land_andThen, Decoded.land_ok] using leads_composite hv kv calls n.toNat c' (by omega)
  | byte mk =>
    refine hrow ?_
    rw [hform, ValueForm.ref, Decoded.land_andThen, land_byteRef, ValueForm.exec, State.valueOfByte, State.atValue_of hat,
      State.resume_buf]
    refine congrArg Host.Outcome.next ?_
    cases rd8 s.buf.bytes (c + 1) with
    | none => rfl
    | some b => exact hdeliver (mk b) (c + 2)
  | bytes n mk =>
    refine hrow ?_
    rw [hform, ValueForm.ref, Decoded.land_andThen, land_readRef, ValueForm.exec, State.valueOfBytes, State.atValue_of hat,
      State.resume_buf]
    refine congrArg Host.Outcome.next ?_
    cases memRead s.buf.bytes (c + 1) n with
    | none => rfl
    | some bs => exact hdeliver (mk bs) (c + 1 + n)
  | string mk =>
    refine hrow ?_
    rw [hform, ValueForm.ref, Decoded.land_andThen, land_stringRef, ValueForm.exec, State.valueString, State.atValue_of hat,
      State.resume_buf]
    refine congrArg Host.Outcome.next ?_
    cases readString s.buf.bytes (c + 1) with
    | none => rfl
    | some bs => exact hdeliver (mk bs) (c + 2 + bs.length)
  | unsupported =>
    refine hrow ?_
    rw [hform]
    exact State.valueFail_of hat

end

/-- R350: a call of VD, by induction on its budget. -/
theorem leadsValue (s : State) (budget : Nat) : LeadsValue s budget := by
  induction budget with
  | zero =>
    intro a c kv calls hc
    exact .of_pastEnd nofun (List.getElem?_eq_none_iff.mpr hc)
  | succ budget ih =>
    intro a c kv calls hc
    cases ht : s.buf.bytes[c]? with
    | none =>
      rw [valueRef_succ, byteRef_of_none ht]
      exact .of_pastEnd nofun ht
    | some t =>
      rw [valueRef_succ, byteRef_of_some ht]
      exact leads_form ih ht hc

end

/-! ### The branches of the peek -/

/-- What the peeked tag `p` of a composite of `n` elements selects (R303-R306). -/
def peekRef (view : List Byte) (budget : Nat) (pd : Nat → Decoded Payload) (n c : Nat) (p : Byte) : Decoded Payload :=
  if p = 1#8 ∨ p = 2#8 ∨ p = 19#8 then mergeRef pd n c []
  else if p = 10#8 then (stringRef view (c + 1)).andThen fun bs c => keyedRef view budget bs (n - 1) c
  else if p = 9#8 then (stringRef view (c + 1)).andThen fun bs c => keyedRef view budget (obis bs) (n - 1) c
  else keyedRef view budget Config.params.defaultKey n c

/-- R302: the count, and for a composite that is not empty the peek. -/
theorem compositeRef_eq (view : List Byte) (budget : Nat) (pd : Nat → Decoded Payload) (c : Nat) :
    compositeRef view budget pd c = (byteRef view c).andThen fun n c =>
      if n.toNat = 0 then .ok [] c
      else match rd8 view c with
        | none => .oob
        | some p => peekRef view budget pd n.toNat c p := rfl

section
variable {view : List Byte}

theorem from_keyedRef (budget : Nat) (key : Text) (count c : Nat) : (keyedRef view budget key count c).From c :=
  Decoded.from_andThen (from_valuesRef (from_valueRef view budget) count c) fun _ c => Decoded.from_ok (Nat.le_refl c)

theorem from_mergeRef {pd : Nat → Decoded Payload} (hpd : ∀ c, (pd c).From c) (n c : Nat) (m : Payload) :
    (mergeRef pd n c m).From c := by
  induction n generalizing c m with
  | zero => exact Decoded.from_ok (Nat.le_refl c)
  | succ n ih => exact Decoded.from_andThen (hpd c) fun p c => ih c (mergeEntries m p)

theorem Decoded.From.mono {α : Type} {r : Decoded α} {c c' : Nat} (h : r.From c') (hle : c ≤ c') : r.From c :=
  fun v c'' hv => hle.trans (h v c'' hv)

theorem from_peekRef {pd : Nat → Decoded Payload} (hpd : ∀ c, (pd c).From c) (budget n c : Nat) (p : Byte) :
    (peekRef view budget pd n c p).From c := by
  have hstring : ∀ keyOf : List Byte → Text,
      ((stringRef view (c + 1)).andThen fun bs c => keyedRef view budget (keyOf bs) (n - 1) c).From c := fun keyOf =>
    (Decoded.from_andThen from_stringRef fun bs c => from_keyedRef budget (keyOf bs) (n - 1) c).mono (Nat.le_succ c)
  unfold peekRef
  split
  · exact from_mergeRef hpd n c []
  · split
    · exact hstring fun bs => bs
    · split
      · exact hstring obis
      · exact from_keyedRef budget _ n c

theorem from_payloadRef (budget c : Nat) : (payloadRef view budget c).From c := by
  induction budget generalizing c with
  | zero => exact Decoded.from_oob
  | succ budget ih =>
    refine Decoded.from_andThen from_byteRef fun t c => ?_
    split
    · exact Decoded.from_ok (Nat.le_refl c)
    · split
      · rw [compositeRef_eq]
        refine Decoded.from_andThen from_byteRef fun n c => ?_
        split
        · exact Decoded.from_ok (Nat.le_refl c)
        · cases rd8 view c with
          | none => exact Decoded.from_oob
          | some p => exact from_peekRef ih budget n.toNat c p
      · exact Decoded.from_fail

end

/-! ### The Payload Decoder -/

section
variable {s : State}

/-- A merge branch with `n` elements still to come and the mapping `m` so far, at the cursor `c` (R303). -/
def State.mergeBranch (s : State) (a : Attempt) : Nat → Payload → Nat → State
  | 0, m, c => s.deliverPayload { a with c := c } m a.merges
  | n + 1, m, c => s.resume { a with c := c, phase := .payload, merges := { left := n, entries := m } :: a.merges }

/-- A top-level composite whose count `n` has been read, at the cursor `c` (R302). -/
def State.countedPayload (s : State) (a : Attempt) : Nat → Nat → State
  | 0, c => s.deliverPayload { a with c := c } [] a.merges
  | more + 1, c => s.resume { a with c := c, phase := .peek more }

/-- A call of PD at a top-level tag leads where the pseudocode answers. -/
def LeadsPayload (s : State) (budget : Nat) : Prop :=
  ∀ (a : Attempt) (c : Nat), s.buf.bytes.length ≤ c + budget →
    Leads (s.resume { a with c := c, phase := .payload })
      ((payloadRef s.buf.bytes budget c).land s fun p c' => s.deliverPayload { a with c := c' } p a.merges)

/-- R307: a keyed composite that begins is one with no value so far. -/
theorem State.beginKeyed_eq (s : State) (x a : Attempt) (ph : Phase) (key : Text) (count : Nat) :
    (s.resume x).beginKeyed { a with phase := ph } key count = s.keyedComposite a key count [] a.c := by
  cases count with
  | zero => exact s.finishKeyed_congr x a ph key []
  | succ n => rfl

section
variable {a : Attempt} {budget c : Nat} (hc : s.buf.bytes.length ≤ c + budget)
include hc

/-- R308: the keyed branch after its key. -/
theorem leads_keyed (key : Text) (count : Nat) :
    Leads (s.keyedComposite a key count [] c) ((keyedRef s.buf.bytes budget key count c).land s fun p c' =>
      s.deliverPayload { a with c := c' } p a.merges) := by
  simp only [keyedRef, Decoded.land_andThen, Decoded.land_ok]
  exact leads_keyedComposite (leadsValue s budget) key count c hc

/-- R303: the elements of a merge branch. -/
theorem leads_merge (hp : LeadsPayload s budget) (n : Nat) (m : Payload) :
    Leads (s.mergeBranch a n m c) ((mergeRef (payloadRef s.buf.bytes budget) n c m).land s fun m' c' =>
      s.deliverPayload { a with c := c' } m' a.merges) := by
  induction n generalizing m c with
  | zero => exact .refl _
  | succ n ih =>
    simp only [mergeRef, Decoded.land_andThen]
    refine (hp { a with merges := { left := n, entries := m } :: a.merges } c hc).land fun p c' hv => ?_
    have hle : c ≤ c' := from_payloadRef budget c p c' hv
    have hbranch : s.deliverPayload { a with c := c', merges := { left := n, entries := m } :: a.merges } p
        ({ left := n, entries := m } :: a.merges) = s.mergeBranch a n (mergeEntries m p) c' := by
      cases n with
      | zero => exact s.deliverPayload_with { a with c := c' } a.phase _ a.merges _
      | succ n => rfl
    rw [hbranch]
    exact ih (by omega) (mergeEntries m p)

/-- R302-R306: the row of the peeked tag and the branch that it selects. -/
theorem leads_peek (hp : LeadsPayload s budget) {p : Byte} (ht : s.buf.bytes[c]? = some p) (more : Nat) :
    Leads (s.resume { a with c := c, phase := .peek more })
      ((peekRef s.buf.bytes budget (payloadRef s.buf.bytes budget) (more + 1) c p).land s fun p c' =>
        s.deliverPayload { a with c := c' } p a.merges) := by
  have hat : (s.resume { a with c := c, phase := .peek more }).standsAt { a with c := c, phase := .peek more }
      (.peek more) := ⟨rfl, rfl⟩
  have hrow : ∀ {u : State}, exec (byteInstr .peek p) (s.resume { a with c := c, phase := .peek more }) = .next u →
      Leads (s.resume { a with c := c, phase := .peek more }) u :=
    fun hu => .of_byte (p := .peek) rfl nofun nofun ht hu
  have hstring : ∀ keyOf : List Byte → Text, (∀ x, exec (byteInstr .peek p) x = x.payloadStringKey keyOf) →
      Leads (s.resume { a with c := c, phase := .peek more })
        (((stringRef s.buf.bytes (c + 1)).andThen fun bs c => keyedRef s.buf.bytes budget (keyOf bs) more c).land s
          fun p c' => s.deliverPayload { a with c := c' } p a.merges) := by
    intro keyOf hexec
    rw [Decoded.land_andThen]
    refine Leads.land (next := fun bs c' => s.keyedComposite a (keyOf bs) more [] c') (hrow ?_) fun bs c' hbs => ?_
    · rw [hexec, State.payloadStringKey, State.atPeek_of hat, State.resume_buf, land_stringRef]
      refine congrArg Host.Outcome.next ?_
      cases readString s.buf.bytes (c + 1) with
      | none => rfl
      | some bs => exact s.beginKeyed_eq _ { a with c := c + 2 + bs.length } _ _ _
    · have hle : c + 1 ≤ c' := from_stringRef bs c' hbs
      exact leads_keyed (by omega) (keyOf bs) more
  unfold peekRef
  split
  · next hmerge =>
    have hexec : ∀ x, exec (byteInstr .peek p) x = x.payloadMerge := by
      rcases hmerge with rfl | rfl | rfl <;> exact fun _ => rfl
    refine .trans (hrow (u := s.mergeBranch a (more + 1) [] c) ?_) (leads_merge hc hp (more + 1) [])
    rw [hexec, State.payloadMerge_of hat]
    rfl
  · next hmerge =>
    split
    · next h10 => exact hstring (fun bs => bs) (h10 ▸ fun _ => rfl)
    · next h10 =>
      split
      · next h9 => exact hstring obis (h9 ▸ fun _ => rfl)
      · next h9 =>
        have hexec : ∀ x, exec (byteInstr .peek p) x = x.payloadDefaultKey :=
          (peekRow_of_encode (encode_byteInstr (p := .peek) rfl).1).resolve_left (by simp_all)
        refine .trans (hrow (u := s.keyedComposite a Config.params.defaultKey (more + 1) [] c) ?_)
          (leads_keyed hc Config.params.defaultKey (more + 1))
        rw [hexec, State.payloadDefaultKey_of hat]
        exact congrArg Host.Outcome.next (s.beginKeyed_eq _ { a with c := c } _ _ _)

/-- R302: after the count. -/
theorem leads_counted (hp : LeadsPayload s budget) (n : Nat) :
    Leads (s.countedPayload a n c)
      ((if n = 0 then .ok [] c
        else match rd8 s.buf.bytes c with
          | none => .oob
          | some p => peekRef s.buf.bytes budget (payloadRef s.buf.bytes budget) n c p : Decoded Payload).land s
        fun p c' => s.deliverPayload { a with c := c' } p a.merges) := by
  cases n with
  | zero => exact .refl _
  | succ more =>
    rw [if_neg (Nat.succ_ne_zero more), rd8_eq]
    cases ht : s.buf.bytes[c]? with
    | none => exact .of_pastEnd nofun ht
    | some p => exact leads_peek hc hp ht more

end

/-- R300: a call of PD, by induction on its budget. -/
theorem leadsPayload (s : State) (budget : Nat) : LeadsPayload s budget := by
  induction budget with
  | zero =>
    intro a c hc
    exact .of_pastEnd nofun (List.getElem?_eq_none_iff.mpr hc)
  | succ budget ih =>
    intro a c hc
    cases ht : s.buf.bytes[c]? with
    | none =>
      rw [payloadRef, byteRef_of_none ht]
      exact .of_pastEnd nofun ht
    | some t =>
      rw [payloadRef, byteRef_of_some ht, Decoded.andThen_ok]
      have hat : (s.resume { a with c := c, phase := .payload }).standsAt { a with c := c, phase := .payload }
          .payload := ⟨rfl, rfl⟩
      have hrow : ∀ {u : State}, exec (byteInstr .payload t) (s.resume { a with c := c, phase := .payload }) = .next u →
          Leads (s.resume { a with c := c, phase := .payload }) u :=
        fun hu => .of_byte (p := .payload) rfl nofun nofun ht hu
      have hreturn : ∀ c', (s.resume { a with c := c, phase := .payload }).deliverPayload
          { a with c := c', phase := .payload } [] a.merges = s.deliverPayload { a with c := c' } [] a.merges := fun c' =>
        (s.deliverPayload_resume _ _ _ _).trans (s.deliverPayload_with { a with c := c' } .payload a.merges a.merges [])
      split
      · next h0 =>
        have hexec : ∀ x, exec (byteInstr .payload t) x = execPdNull x := h0 ▸ fun _ => rfl
        refine hrow ?_
        rw [hexec, execPdNull, State.atPayload_of hat]
        exact congrArg Host.Outcome.next (hreturn (c + 1))
      · next h0 =>
        split
        · next h12 =>
          have hexec : ∀ x, exec (byteInstr .payload t) x = x.payloadComposite := by
            rcases h12 with rfl | rfl <;> exact fun _ => rfl
          rw [compositeRef_eq, Decoded.land_andThen]
          refine Leads.land (next := fun n c' => s.countedPayload a n.toNat c') (hrow ?_) fun n c' hn => ?_
          · rw [hexec, State.payloadComposite, State.atPayload_of hat, State.resume_buf, land_byteRef]
            refine congrArg Host.Outcome.next ?_
            cases rd8 s.buf.bytes (c + 1) with
            | none => rfl
            | some n =>
              dsimp only
              cases n.toNat with
              | zero => exact hreturn (c + 2)
              | succ more => rfl
          · have hle : c + 1 ≤ c' := from_byteRef n c' hn
            exact leads_counted (by omega) ih n.toNat
        · next h12 =>
          have hexec : ∀ x, exec (byteInstr .payload t) x = x.payloadFail := by
            refine (payloadRow_of_encode (encode_byteInstr (p := .payload) rfl).1).resolve_left fun hle => h12 ?_
            have h0' : t.toNat ≠ 0 := fun h => h0 (BitVec.eq_of_toNat_eq h)
            rcases (by omega : t.toNat = 1 ∨ t.toNat = 2) with h | h
            · exact .inl (BitVec.eq_of_toNat_eq h)
            · exact .inr (BitVec.eq_of_toNat_eq h)
          refine hrow ?_
          rw [hexec]
          exact State.payloadFail_of hat

end

end Sys2Proof.Machine
end

section
/-! PROOFS. A whole attempt as the spec's pseudocode (40_host_transactions.md R200; 41_frame_sync.md R230-R251): the header and
the body lead where `attemptRef` answers, and what PUSH answers is read off it. -/

namespace Sys2Proof.Machine

/-! ### The date-time field and the body -/

section
variable {s : State}

/-- R243: the rows that stand for a length lead to the field of that length. -/
theorem leads_dateTimeField (a : Attempt) {i pos : Nat} {b : Byte} (hb : s.buf.bytes[pos]? = some b)
    (hlen : b = 0x00#8 ∨ b = 0x0C#8 ∨ 12 ≤ i) :
    Leads (s.resume { a with c := pos, phase := .dateTime i }) ((stringRef s.buf.bytes pos).land s fun dt c' =>
      s.resume { a with dt := dt, c := c', phase := .payload, merges := [] }) := by
  have hat : (s.resume { a with c := pos, phase := .dateTime i }).standsAt { a with c := pos, phase := .dateTime i }
      (.dateTime i) := ⟨rfl, rfl⟩
  have hexec : exec (byteInstr .dateTime b) (s.resume { a with c := pos, phase := .dateTime i }) =
      .next ((s.resume { a with c := pos, phase := .dateTime i }).dateTimeField { a with c := pos, phase := .dateTime i }
        b.toNat) := by
    by_cases h0 : b = 0x00#8
    · subst h0
      exact exec_lengthRow hat (.inl (by decide))
    · by_cases h12 : b = 0x0C#8
      · subst h12
        exact exec_lengthRow hat (.inl (by decide))
      · have hi : 12 ≤ i := (hlen.resolve_left h0).resolve_left h12
        exact exec_lengthRow hat (.inr ⟨hi, b, (encode_byteInstr (p := .dateTime) rfl).1, h0, h12, rfl⟩)
  refine .of_byte (p := .dateTime) rfl nofun nofun hb (hexec.trans (congrArg Host.Outcome.next ?_))
  rw [stringRef, byteRef_of_some hb, Decoded.andThen_ok, land_readRef, State.dateTimeField, State.resume_buf]
  cases memRead s.buf.bytes (pos + 1) b.toNat with
  | none => rfl
  | some dt => rfl

/-- R243: the scan for the length byte, by induction on the bytes left to scan. -/
theorem leads_dateTimeScan (a : Attempt) (k : Nat) {i pos : Nat} (hk : i + k = 12) :
    Leads (s.resume { a with c := pos, phase := .dateTime i })
      (((dateTimeScanRef s.buf.bytes k pos).andThen fun _ pos => stringRef s.buf.bytes pos).land s fun dt c' =>
        s.resume { a with dt := dt, c := c', phase := .payload, merges := [] }) := by
  induction k generalizing i pos with
  | zero =>
    rw [dateTimeScanRef, Decoded.andThen_ok]
    cases hb : s.buf.bytes[pos]? with
    | none =>
      rw [stringRef, byteRef_of_none hb]
      exact .of_pastEnd nofun hb
    | some b => exact leads_dateTimeField a hb (.inr (.inr (by omega)))
  | succ k ih =>
    rw [dateTimeScanRef, rd8_eq]
    cases hb : s.buf.bytes[pos]? with
    | none => exact .of_pastEnd nofun hb
    | some b =>
      dsimp only
      split
      · next hmarker => exact leads_dateTimeField a hb (hmarker.imp_right .inl)
      · next hmarker =>
        obtain ⟨h0, h12⟩ := not_or.mp hmarker
        have hat : (s.resume { a with c := pos, phase := .dateTime i }).standsAt
            { a with c := pos, phase := .dateTime i } (.dateTime i) := ⟨rfl, rfl⟩
        refine .trans (.of_byte (p := .dateTime) rfl nofun nofun hb ?_) (ih (i := i + 1) (pos := pos + 1) (by omega))
        rw [exec_of_encode_dateTime (encode_byteInstr (p := .dateTime) rfl).1 h0 h12, State.dateTimeSkip_of hat,
          if_pos (by omega)]
        rfl

/-- R243, R244: the date-time field and the payload, to the commit of R247. -/
theorem leads_body (a : Attempt) :
    Leads (s.resume { a with phase := .dateTime 0 }) ((bodyRef s.buf.bytes a).land s fun body cf =>
      s.publish { a with dt := body.1, c := cf } body.2) := by
  simp only [bodyRef, dateTimeRef, Decoded.land_andThen, Decoded.land_ok]
  rw [← Decoded.land_andThen]
  refine (leads_dateTimeScan a Config.params.dtScanLimit (i := 0) (pos := a.c) rfl).land fun dt c _ => ?_
  exact leadsPayload s (s.buf.bytes.length + 1) { a with dt := dt, merges := [] } c (by omega)

end

/-! ### The link-layer header -/

/-- The addresses and the control byte (R236, R237). -/
def addressesRef (view : List Byte) (c : Nat) : Decoded (BitVec 32 × BitVec 32 × Byte) :=
  (addressRef view Config.params.addrMaxBytes 0#32 c).andThen fun addrC c =>
    (addressRef view Config.params.addrMaxBytes 0#32 c).andThen fun addrS c =>
      (byteRef view c).andThen fun ctrl c => .ok (addrC, addrS, ctrl) c

/-- Steps 9 and 10 (R239, R242) with the cursor at the HCS; `a` has the registers read so far. -/
def frameCheckRef (view : List Byte) (start dlen : Nat) (a : Attempt) : HeaderRead :=
  if dlen < 2 then .ended (view.drop start) .fcsMismatch
  else
    match le16At view (start + dlen - 2) with
    | none => .ended [] .decodeOob
    | some fcs =>
      if crc16 (slice view start (start + dlen - 2)) ≠ fcs then .ended (view.drop start) .fcsMismatch
      else .body { a with fcs := fcs, c := a.c + 10 }

/-- Step 8 (R238) and the steps after it. -/
def headerCheckRef (view : List Byte) (start dlen : Nat) (a : Attempt) : HeaderRead :=
  match le16At view a.c with
  | none => .ended [] .decodeOob
  | some hcs =>
    if crc16 (slice view start a.c) ≠ hcs then .ended (view.drop start) .hcsMismatch
    else frameCheckRef view start dlen { a with hcs := hcs }

/-- What a header that is complete comes to. -/
theorem linkHeaderRef_of_complete {view : List Byte} {start dlen : Nat} (h : start + dlen < view.length) (fmt : Nat)
    (seg : Bool) (c : Nat) :
    linkHeaderRef view start fmt seg dlen c = match addressesRef view c with
      | .ok (addrC, addrS, ctrl) c => headerCheckRef view start dlen { Attempt.start with
          fmt := fmt, seg := seg, dlen := dlen, addrC := addrC, addrS := addrS, ctrl := ctrl, c := c }
      | _ => .ended [] .decodeOob :=
  if_pos h

theorem linkHeaderRef_of_incomplete {view : List Byte} {start dlen : Nat} (h : ¬ start + dlen < view.length) (fmt : Nat)
    (seg : Bool) (c : Nat) : linkHeaderRef view start fmt seg dlen c = .ended view .insuffIncomplete :=
  if_neg h

/-- Steps 4 to 10 (R234-R242) of a frame that starts at `start`. -/
def frameRef (view : List Byte) (start : Nat) : HeaderRead :=
  match formatRef view start with
  | none => .ended (view.drop start) .formatUnsupported
  | some (.ok (fmt, seg, dlen) c) => linkHeaderRef view start fmt seg dlen c
  | some _ => .ended [] .decodeOob

section
variable {view : List Byte} {start : Nat} {b1 : Byte} (hb1 : view[start]? = some b1)
include hb1

theorem frameRef_of_short (h : b1.toNat ≤ 0x7F) :
    frameRef view start = linkHeaderRef view start 0 false b1.toNat (start + 1) := by
  have hmod : b1.toNat % 128 = b1.toNat := Nat.mod_eq_of_lt (by omega)
  have hformat : formatRef view start = some (.ok (0, false, b1.toNat % 128) (start + 1)) := by
    unfold formatRef
    rw [rd8_eq, hb1]
    exact if_pos h
  rw [frameRef, hformat, hmod]

theorem frameRef_of_extended (h : 0x80 ≤ b1.toNat ∧ b1.toNat ≤ 0xF0) {b2 : Byte} (hb2 : view[start + 1]? = some b2) :
    frameRef view start = linkHeaderRef view start (b1.toNat / 128 + b1.toNat / 16 % 8) (b1.toNat / 8 % 2 == 1)
      (b1.toNat % 8 * 256 + b2.toNat) (start + 2) := by
  have hlong : ¬ b1.toNat ≤ Config.params.shortFormMax := Nat.not_le.mpr h.1
  have hext : b1.toNat ≤ Config.params.extFormMax := h.2
  unfold frameRef formatRef
  simp only [rd8_eq, hb1, hb2, if_neg hlong, if_pos hext]

theorem frameRef_of_unsupported (h : 0xF1 ≤ b1.toNat) :
    frameRef view start = .ended (view.drop start) .formatUnsupported := by
  have hlong : ¬ b1.toNat ≤ Config.params.shortFormMax := Nat.not_le.mpr (Nat.le_trans (by decide) h)
  have hext : ¬ b1.toNat ≤ Config.params.extFormMax := Nat.not_le.mpr h
  unfold frameRef formatRef
  simp only [rd8_eq, hb1, if_neg hlong, if_neg hext]

end

section
variable {view : List Byte}

theorem headerRef_of_noFlag (h : findFlag view 0 = none) : headerRef view = .ended view .insuffNoFlag := by
  rw [headerRef, h]

theorem headerRef_of_shortFrame {fi : Nat} (h : findFlag view 0 = some fi)
    (hlen : view.length < frameStartRef view fi + 14) :
    headerRef view = .ended view .insuffShort := by
  rw [headerRef, h]
  exact if_pos hlen

theorem headerRef_of_frame {fi : Nat} (h : findFlag view 0 = some fi) (hlen : frameStartRef view fi + 14 ≤ view.length) :
    headerRef view = frameRef view (frameStartRef view fi) := by
  rw [headerRef, h]
  exact if_neg (Nat.not_lt.mpr hlen)

end

/-! ### Reads never fail -/

/-- The decoder reads or runs past the end, and never answers a failure cursor. -/
def Decoded.Reads {α : Type} (r : Decoded α) : Prop := ∀ c, r ≠ .fail c

section
variable {α β : Type} {view : List Byte} {c : Nat}

theorem Decoded.reads_andThen {r : Decoded α} {k : α → Nat → Decoded β} (hr : r.Reads) (hk : ∀ v c', (k v c').Reads) :
    (r.andThen k).Reads := by
  cases r with
  | ok v c' => exact hk v c'
  | fail c' => exact absurd rfl (hr c')
  | oob => exact nofun

theorem reads_byteRef : (byteRef view c).Reads := by
  unfold byteRef
  split
  · exact nofun
  · exact nofun

theorem reads_addressRef (k : Nat) (acc : BitVec 32) : (addressRef view k acc c).Reads := by
  induction k generalizing acc c with
  | zero => exact nofun
  | succ k ih =>
    refine Decoded.reads_andThen reads_byteRef fun b c' => ?_
    split
    · exact nofun
    · exact ih _

theorem reads_addressesRef : (addressesRef view c).Reads :=
  Decoded.reads_andThen (reads_addressRef _ _) fun _ _ =>
    Decoded.reads_andThen (reads_addressRef _ _) fun _ _ => Decoded.reads_andThen reads_byteRef fun _ _ => nofun

end

/-! ### The header's rows -/

section
variable {s : State}

/-- R236: an address, by induction on the bytes left to it. `reading k` has read `k` of them, `next` follows the last. -/
theorem leads_address {reading : Nat → BitVec 32 → Nat → State} {next : BitVec 32 → Nat → State}
    (hoob : ∀ k acc c, s.buf.bytes[c]? = none → Leads (reading k acc c) s.raiseOob)
    (hrow : ∀ k acc c b, s.buf.bytes[c]? = some b → Leads (reading k acc c)
      (if b.getLsbD 0 = true ∨ 3 ≤ k then next (accumulateAddress acc b) (c + 1)
        else reading (k + 1) (accumulateAddress acc b) (c + 1)))
    (j : Nat) {k : Nat} (hj : k + j = 3) (acc : BitVec 32) (c : Nat) :
    Leads (reading k acc c) ((addressRef s.buf.bytes (j + 1) acc c).land s next) := by
  induction j generalizing k acc c with
  | zero =>
    rw [addressRef]
    cases hb : s.buf.bytes[c]? with
    | none =>
      rw [byteRef_of_none hb]
      exact hoob k acc c hb
    | some b =>
      have hlast := hrow k acc c b hb
      rw [if_pos (.inr (by omega))] at hlast
      rw [byteRef_of_some hb, Decoded.andThen_ok, addressRef, ite_self]
      exact hlast
  | succ j ih =>
    rw [addressRef]
    cases hb : s.buf.bytes[c]? with
    | none =>
      rw [byteRef_of_none hb]
      exact hoob k acc c hb
    | some b =>
      have hbyte := hrow k acc c b hb
      rw [byteRef_of_some hb, Decoded.andThen_ok]
      split
      · next hend =>
        rw [if_pos (.inl hend)] at hbyte
        exact hbyte
      · next hmore =>
        rw [if_neg (not_or.mpr ⟨hmore, by omega⟩)] at hbyte
        exact hbyte.trans (ih (by omega) _ _)

section
variable (a : Attempt)

theorem leads_client (c : Nat) :
    Leads (s.resume { a with addrC := 0#32, c := c, phase := .client 0 })
      ((addressRef s.buf.bytes Config.params.addrMaxBytes 0#32 c).land s fun acc c' =>
        s.resume { a with addrC := acc, addrS := 0#32, c := c', phase := .server 0 }) := by
  refine leads_address (reading := fun k acc c => s.resume { a with addrC := acc, c := c, phase := .client k })
    (fun k acc c hb => .of_pastEnd nofun hb) (fun k acc c b hb => ?_) 3 rfl 0#32 c
  refine .of_byte (p := .address) rfl nofun nofun hb ?_
  rw [exec_of_encode_address (encode_byteInstr (p := .address) rfl).1, State.addressStep_client (k := k) ⟨rfl, rfl⟩]
  split <;> rfl

theorem leads_server (c : Nat) :
    Leads (s.resume { a with addrS := 0#32, c := c, phase := .server 0 })
      ((addressRef s.buf.bytes Config.params.addrMaxBytes 0#32 c).land s fun acc c' =>
        s.resume { a with addrS := acc, c := c', phase := .control }) := by
  refine leads_address (reading := fun k acc c => s.resume { a with addrS := acc, c := c, phase := .server k })
    (fun k acc c hb => .of_pastEnd nofun hb) (fun k acc c b hb => ?_) 3 rfl 0#32 c
  refine .of_byte (p := .address) rfl nofun nofun hb ?_
  rw [exec_of_encode_address (encode_byteInstr (p := .address) rfl).1, State.addressStep_server (k := k) ⟨rfl, rfl⟩]
  split <;> rfl

/-- R237: the control byte, to the header CRC. -/
theorem leads_control (c : Nat) :
    Leads (s.resume { a with c := c, phase := .control })
      ((byteRef s.buf.bytes c).land s fun ctrl c' =>
        s.checkHeaderCrc { a with ctrl := ctrl, c := c', phase := .control }) := by
  cases hb : s.buf.bytes[c]? with
  | none =>
    rw [byteRef_of_none hb]
    exact .of_pastEnd nofun hb
  | some b =>
    rw [byteRef_of_some hb]
    have hexec := execCtrl_of_standsAt (s := s.resume { a with c := c, phase := .control }) ⟨rfl, rfl⟩ b
    exact .of_byte (p := .control) rfl nofun nofun hb hexec

/-- R236, R237: the addresses and the control byte. -/
theorem leads_addresses (c : Nat) :
    Leads (s.resume { a with addrC := 0#32, c := c, phase := .client 0 })
      ((addressesRef s.buf.bytes c).land s fun v c' =>
        s.checkHeaderCrc { a with addrC := v.1, addrS := v.2.1, ctrl := v.2.2, c := c', phase := .control }) := by
  simp only [addressesRef, Decoded.land_andThen, Decoded.land_ok]
  refine (leads_client a c).land fun addrC c _ => ?_
  refine (leads_server { a with addrC := addrC } c).land fun addrS c _ => ?_
  exact leads_control { a with addrC := addrC, addrS := addrS } c

end

/-! ### Where a header's reading lands -/

/-- `t` leads to the end that the header's reading answers, or to the date-time field behind the registers that it answers.
The start of the frame and the flag are registers that nothing reads from there on. -/
def LeadsHeader (s t : State) : HeaderRead → Prop
  | .ended left oc => Leads t (s.endAttempt oc (Memory.ofBytes left))
  | .body b => ∃ fi start, Leads t (s.resume { b with fi := fi, startOff := start, phase := .dateTime 0 })

theorem LeadsHeader.trans {t u : State} {r : HeaderRead} (h : Leads t u) (h' : LeadsHeader s u r) : LeadsHeader s t r := by
  cases r with
  | ended left oc => exact Leads.trans h h'
  | body b =>
    obtain ⟨fi, start, hbody⟩ := h'
    exact ⟨fi, start, h.trans hbody⟩

theorem leadsHeader_raiseOob (s : State) : LeadsHeader s s.raiseOob (.ended [] .decodeOob) := by
  rw [State.raiseOob_eq]
  exact .refl _

section
variable (a : Attempt) (fi start : Nat) {dlen : Nat} (hdlen : a.dlen = dlen)
include hdlen

/-- R239, R242: the frame CRC's check. -/
theorem leadsHeader_frameCheck :
    LeadsHeader s (s.checkFrameCrc { a with fi := fi, startOff := start, phase := .control })
      (frameCheckRef s.buf.bytes start dlen a) := by
  have hp : ((start : Int) + a.dlen - 2).toNat = start + dlen - 2 := by omega
  unfold frameCheckRef State.checkFrameCrc
  dsimp only
  rw [hp]
  by_cases hshort : dlen < 2
  · rw [if_pos hshort, if_pos (by omega)]
    exact Leads.refl _
  · rw [if_neg hshort, if_neg (by omega)]
    cases le16At s.buf.bytes (start + dlen - 2) with
    | none => exact leadsHeader_raiseOob s
    | some fcs =>
      dsimp only
      by_cases hcrc : crc16 (slice s.buf.bytes start (start + dlen - 2)) = fcs
      · rw [if_pos hcrc, if_neg (not_not.mpr hcrc)]
        exact ⟨fi, start, .refl _⟩
      · rw [if_neg hcrc, if_pos hcrc]
        exact Leads.refl _

/-- R238: the header CRC's check. -/
theorem leadsHeader_headerCheck :
    LeadsHeader s (s.checkHeaderCrc { a with fi := fi, startOff := start, phase := .control })
      (headerCheckRef s.buf.bytes start dlen a) := by
  unfold headerCheckRef State.checkHeaderCrc
  dsimp only
  cases le16At s.buf.bytes a.c with
  | none => exact leadsHeader_raiseOob s
  | some hcs =>
    dsimp only
    by_cases hcrc : crc16 (slice s.buf.bytes start a.c) = hcs
    · rw [if_pos hcrc, if_neg (not_not.mpr hcrc)]
      exact leadsHeader_frameCheck { a with hcs := hcs } fi start hdlen
    · rw [if_neg hcrc, if_pos hcrc]
      exact Leads.refl _

end

/-! ### The start of the frame and its format -/

/-- An attempt at the format byte of the frame that starts at `start`. -/
def Attempt.atFrame (fi start : Nat) : Attempt :=
  { Attempt.start with fi := fi, startOff := start, c := start, phase := .format }

section
variable (hs : s.buf = Memory.ofBytes s.buf.bytes) {fi start : Nat}
include hs

/-- R230, R233, R235: insufficient data leaves BUF. -/
theorem leadsHeader_insufficient (oc : ParseOutcome) :
    LeadsHeader s (s.endInsufficient oc) (.ended s.buf.bytes oc) := by
  rw [LeadsHeader, ← hs]
  exact .refl _

/-- R235-R242: the completeness guard and what follows it. -/
theorem leadsHeader_setFormat (fmt : Nat) (seg : Bool) (dlen width : Nat) :
    LeadsHeader s (s.setFormat (Attempt.atFrame fi start) fmt seg dlen width)
      (linkHeaderRef s.buf.bytes start fmt seg dlen (start + width)) := by
  by_cases hcomplete : start + dlen < s.buf.bytes.length
  · rw [linkHeaderRef_of_complete hcomplete,
      State.setFormat_of_complete (a := Attempt.atFrame fi start) (by rwa [← Memory.length_bytes])]
    have hlead := leads_addresses (s := s) { Attempt.atFrame fi start with fmt := fmt, seg := seg, dlen := dlen }
      (start + width)
    cases haddr : addressesRef s.buf.bytes (start + width) with
    | ok v c =>
      rw [haddr] at hlead
      exact LeadsHeader.trans hlead (leadsHeader_headerCheck { Attempt.start with
        fmt := fmt, seg := seg, dlen := dlen, addrC := v.1, addrS := v.2.1, ctrl := v.2.2, c := c } fi start rfl)
    | fail c => exact absurd haddr (reads_addressesRef c)
    | oob =>
      rw [haddr] at hlead
      exact LeadsHeader.trans hlead (leadsHeader_raiseOob s)
  · rw [linkHeaderRef_of_incomplete hcomplete,
      State.setFormat_of_incomplete (a := Attempt.atFrame fi start) (by rwa [← Memory.length_bytes])]
    exact leadsHeader_insufficient hs _

/-- R234: the format byte, and the second one of the extended form. -/
theorem leadsHeader_frame {b1 b2 : Byte} (hb1 : s.buf.bytes[start]? = some b1) (hb2 : s.buf.bytes[start + 1]? = some b2) :
    LeadsHeader s (s.resume (Attempt.atFrame fi start)) (frameRef s.buf.bytes start) := by
  have hat : (s.resume (Attempt.atFrame fi start)).standsAt (Attempt.atFrame fi start) .format := ⟨rfl, rfl⟩
  have hrow : ∀ {i : Instr} {rest : List Byte} {t : State},
      decodeFormat b1 (b2 :: s.buf.bytes.drop (start + 2)) = .ok (i, rest) →
      exec i (s.resume (Attempt.atFrame fi start)) = .next t → Leads (s.resume (Attempt.atFrame fi start)) t := by
    intro i rest t hdecode ht
    obtain ⟨hlt1, hget1⟩ := List.getElem?_eq_some_iff.mp hb1
    obtain ⟨hlt2, hget2⟩ := List.getElem?_eq_some_iff.mp hb2
    refine .of_exec (rest := rest) nofun ?_ ht
    show decodeAt .format (s.buf.bytes.drop start) = _
    rw [List.drop_eq_getElem_cons hlt1, List.drop_eq_getElem_cons hlt2, hget1, hget2]
    exact hdecode
  by_cases hshort : b1.toNat ≤ 0x7F
  · rw [frameRef_of_short hb1 hshort]
    refine LeadsHeader.trans (hrow (decodeFormat_single (by omega) _) ?_)
      (leadsHeader_setFormat hs (fi := fi) 0 false b1.toNat 1)
    rw [exec_singleInstr_short hshort, State.atFormat_of hat]
    rfl
  · by_cases hext : b1.toNat ≤ 0xF0
    · have hrange : 0x80 ≤ b1.toNat ∧ b1.toNat ≤ 0xF0 := ⟨by omega, hext⟩
      rw [frameRef_of_extended hb1 hrange hb2]
      refine LeadsHeader.trans (hrow (decodeFormat_extended hrange.1 hrange.2 b2 _) ?_)
        (leadsHeader_setFormat hs (fi := fi) _ _ _ 2)
      rw [exec_extInstr hrange, State.atFormat_of hat]
      rfl
    · rw [frameRef_of_unsupported hb1 (by omega)]
      refine hrow (decodeFormat_single (by omega) _) ?_
      rw [exec_singleInstr_unsupported (by omega)]
      exact State.atFormat_of hat _

/-- R230-R242: the flag search, the frame's start and its header. -/
theorem leadsHeader_attempt : LeadsHeader s (s.resume Attempt.start) (headerRef s.buf.bytes) := by
  cases hflag : findFlag s.buf.bytes 0 with
  | none =>
    rw [headerRef_of_noFlag hflag]
    have hfetch : (s.resume Attempt.start).fetch Attempt.start = .noFlag := by
      rw [State.fetch, State.resume_buf, show Attempt.start.c = 0 from rfl, hflag]
      rfl
    refine LeadsHeader.trans (.row rfl ?_ (.refl _)) (leadsHeader_insufficient hs .insuffNoFlag)
    rw [State.attemptStep, hfetch]
    rfl
  | some fi =>
    have hfetch : (s.resume Attempt.start).fetch Attempt.start = .instr .flag { Attempt.start with c := fi } := by
      rw [State.fetch, State.resume_buf, show Attempt.start.c = 0 from rfl, hflag]
      rfl
    have hexec : execFlag (s.resume { Attempt.start with c := fi }) =
        .next (if s.buf.bytes.length < frameStartRef s.buf.bytes fi + 14 then s.endInsufficient .insuffShort
          else s.resume (Attempt.atFrame fi (frameStartRef s.buf.bytes fi))) :=
      execFlag_of (a := { Attempt.start with c := fi }) ⟨rfl, rfl⟩ rfl
    have hrow : ∀ {t : State}, execFlag (s.resume { Attempt.start with c := fi }) = .next t →
        Leads (s.resume Attempt.start) t := by
      intro t ht
      refine .row rfl ?_ (.refl t)
      rw [← State.afterFetch_exec_fetch, hfetch]
      exact ht
    by_cases hlen : s.buf.bytes.length < frameStartRef s.buf.bytes fi + 14
    · rw [headerRef_of_shortFrame hflag hlen]
      rw [if_pos hlen] at hexec
      exact LeadsHeader.trans (hrow hexec) (leadsHeader_insufficient hs .insuffShort)
    · have hge : frameStartRef s.buf.bytes fi + 14 ≤ s.buf.bytes.length := Nat.not_lt.mp hlen
      rw [headerRef_of_frame hflag hge]
      rw [if_neg hlen] at hexec
      exact LeadsHeader.trans (hrow hexec)
        (leadsHeader_frame hs (List.getElem?_eq_getElem (by omega)) (List.getElem?_eq_getElem (by omega)))

end

end

/-! ### The whole attempt -/

/-- The end of an attempt with the buffer left, the outcome and, on success, the record that `attemptRef` answers. -/
def State.endRef (s : State) : List Byte × ParseOutcome × Option Record → State
  | (left, oc, none) => s.endAttempt oc (Memory.ofBytes left)
  | (left, oc, some rec) =>
    { s.endAttempt oc (Memory.ofBytes left) with latest := rec, latestValid := true, out := s.out ++ [rec] }

theorem State.publish_eq_endRef (s : State) (a : Attempt) (p : Payload) :
    s.publish a p = s.endRef (s.buf.bytes.drop (a.c + 3), .recordOk, some (a.record p)) := by
  rw [State.publish, Memory.commitTrim_eq]
  rfl

theorem State.raiseFail_eq_endRef (s : State) (cf : Nat) :
    s.raiseFail cf = s.endRef (s.buf.bytes.drop (cf + 3), .decodeFail, none) := by
  rw [State.raiseFail, Memory.commitTrim_eq]
  rfl

theorem State.raiseOob_eq_endRef (s : State) : s.raiseOob = s.endRef ([], .decodeOob, none) := s.raiseOob_eq

/-- The trim's test for the end of the buffer only says what the cut leaves there. -/
theorem trim_eq_drop (view : List Byte) (k : Nat) : (if k ≥ view.length then [] else view.drop k) = view.drop k := by
  split
  · next h => exact (List.drop_eq_nil_of_le h).symm
  · rfl

section
variable {view : List Byte}

theorem attemptRef_of_ended {left : List Byte} {oc : ParseOutcome} (h : headerRef view = .ended left oc) :
    attemptRef view = (left, oc, none) := by
  rw [attemptRef, h]

section
variable {a : Attempt} (h : headerRef view = .body a)
include h

theorem attemptRef_of_ok {dt : List Byte} {payload : Payload} {cf : Nat} (hbody : bodyRef view a = .ok (dt, payload) cf) :
    attemptRef view = (view.drop (cf + 3), .recordOk, some ({ a with dt := dt }.record payload)) := by
  rw [attemptRef, h]
  dsimp only
  rw [hbody]
  exact congrArg (·, _) (trim_eq_drop view (cf + 3))

theorem attemptRef_of_fail {cf : Nat} (hbody : bodyRef view a = .fail cf) :
    attemptRef view = (view.drop (cf + 3), .decodeFail, none) := by
  rw [attemptRef, h]
  dsimp only
  rw [hbody]
  exact congrArg (·, _) (trim_eq_drop view (cf + 3))

theorem attemptRef_of_oob (hbody : bodyRef view a = .oob) : attemptRef view = ([], .decodeOob, none) := by
  rw [attemptRef, h]
  dsimp only
  rw [hbody]
  exact congrArg (·, _) (if_pos (Nat.le_add_right _ _))

end

end

/-- R248: an attempt leads where the pseudocode answers. -/
theorem leads_attempt {s : State} (hs : s.buf = Memory.ofBytes s.buf.bytes) :
    Leads (s.resume Attempt.start) (s.endRef (attemptRef s.buf.bytes)) := by
  have hheader := leadsHeader_attempt hs
  cases hread : headerRef s.buf.bytes with
  | ended left oc =>
    rw [hread] at hheader
    rw [attemptRef_of_ended hread]
    exact hheader
  | body a =>
    rw [hread] at hheader
    obtain ⟨fi, start, hlead⟩ := hheader
    refine hlead.trans ?_
    have hbodyRef : bodyRef s.buf.bytes { a with fi := fi, startOff := start } = bodyRef s.buf.bytes a := rfl
    have hdecode := leads_body (s := s) { a with fi := fi, startOff := start }
    rw [hbodyRef] at hdecode
    cases hbody : bodyRef s.buf.bytes a with
    | ok v cf =>
      rw [hbody, Decoded.land_ok, State.publish_eq_endRef] at hdecode
      rw [attemptRef_of_ok hread hbody]
      exact hdecode
    | fail cf =>
      rw [hbody, Decoded.land_fail, State.raiseFail_eq_endRef] at hdecode
      rw [attemptRef_of_fail hread hbody]
      exact hdecode
    | oob =>
      rw [hbody, Decoded.land_oob, State.raiseOob_eq_endRef] at hdecode
      rw [attemptRef_of_oob hread hbody]
      exact hdecode

/-! ### PUSH -/

theorem State.endRef_attempt (s : State) (r : List Byte × ParseOutcome × Option Record) : (s.endRef r).attempt = none := by
  obtain ⟨left, oc, rec⟩ := r
  cases rec <;> rfl

/-- R200: the pseudocode of PUSH is an attempt on the buffer that received the chunk. -/
theorem pushRef_eq {s : State} (hs : s.attempt = none) (chunk : List Byte) :
    pushRef chunk s = (s.beginPush chunk).endRef (attemptRef (s.buf.receive chunk).bytes) := by
  rw [pushRef, Memory.bytes_receive]
  generalize attemptRef _ = r
  obtain ⟨left, oc, rec⟩ := r
  cases s
  cases hs
  cases rec <;> rfl

/-- Settles O7: the rows of PUSH lead where the pseudocode answers, and PUSH runs them to their end. -/
theorem pushRefinesPseudocode : Obligations.PushRefinesPseudocode := by
  intro s chunk hs hc
  obtain ⟨t, ht, _⟩ := execPush_ends hs hc
  have hlead : Leads (s.beginPush chunk) (pushRef chunk s) := by
    rw [pushRef_eq hs]
    exact leads_attempt (s := s.beginPush chunk) (Memory.receive_eq_ofBytes s.buf chunk)
  have hend : (pushRef chunk s).attempt = none := by
    rw [pushRef_eq hs]
    exact State.endRef_attempt _ _
  have hrun := ht
  rw [execPush_eq_runAttempt hs hc] at hrun
  exact ht.trans (congrArg _ (hlead.eq_of_runAttempt hend hrun).symm)

/-- What a PUSH that completes answers. -/
theorem eq_endRef_of_execPush {s t : State} {chunk : List Byte} (h : exec (.push chunk) s = .next t) :
    t = (s.beginPush chunk).endRef (attemptRef (s.buf.receive chunk).bytes) := by
  obtain ⟨hs, hc⟩ := idle_and_fits_of_execPush h
  rw [← pushRef_eq hs]
  exact Host.Outcome.next.inj (h.symm.trans (pushRefinesPseudocode s chunk hs hc))

end Sys2Proof.Machine
end

section
/-! PROOFS. What PUSH answers, read off the pseudocode (41_frame_sync.md R248-R251; 10_state.md R58; 60_exceptions.md R500). -/

namespace Sys2Proof.Machine

section
variable {s : State} (r : List Byte × ParseOutcome × Option Record)

theorem State.endRef_buf : (s.endRef r).buf = Memory.ofBytes r.1 := by
  obtain ⟨left, oc, rec⟩ := r
  cases rec <;> rfl

theorem State.endRef_status : (s.endRef r).status = r.2.1.code := by
  obtain ⟨left, oc, rec⟩ := r
  cases rec <;> rfl

end

section
variable (s : State) (r : List Byte × ParseOutcome × Option Record)

/-- An end does not keep the STATUS before it. -/
theorem State.endRef_with_status (st : BitVec 4) : { s with status := st }.endRef r = s.endRef r := by
  obtain ⟨left, oc, rec⟩ := r
  cases rec <;> rfl

end

/-- R202, R203: two chunks that fit are received as one. -/
theorem Memory.receive_receive_of_fits {m : Memory} {first second : List Byte}
    (h : m.size + first.length + second.length ≤ 2048) :
    (m.receive first).receive second = m.receive (first ++ second) := by
  have hfirst : m.receive first = Memory.ofBytes (m.bytes ++ first) := Memory.receive_of_fits (by omega)
  have hsize : (Memory.ofBytes (m.bytes ++ first)).size = m.size + first.length := by
    rw [Memory.size_ofBytes, List.length_append, Memory.length_bytes]
  have hlen : (first ++ second).length = first.length + second.length := List.length_append
  rw [hfirst, Memory.receive_of_fits (by omega), Memory.receive_of_fits (by omega), Memory.bytes_ofBytes, List.append_assoc]

/-! ### How an attempt ends -/

/-- How an attempt ends: the buffer left, the outcome and the record (R500, R241, R245-R247). -/
inductive AttemptEnd (view : List Byte) : List Byte × ParseOutcome × Option Record → Prop where
  | insufficient {oc : ParseOutcome} (h : oc.insufficient = true) : AttemptEnd view (view, oc, none)
  | resync {oc : ParseOutcome} {fi : Nat} (h : oc.resync = true) (hflag : findFlag view 0 = some fi)
      (hlen : frameStartRef view fi + 14 ≤ view.length) : AttemptEnd view (view.drop (frameStartRef view fi), oc, none)
  | outOfBounds (hne : 0 < view.length) : AttemptEnd view ([], .decodeOob, none)
  | recordOk {a : Attempt} {dt : List Byte} {payload : Payload} {cf : Nat} (hne : 0 < view.length)
      (hheader : headerRef view = .body a) (hbody : bodyRef view a = .ok (dt, payload) cf) :
      AttemptEnd view (view.drop (cf + 3), .recordOk, some ({ a with dt := dt }.record payload))
  | decodeFail {a : Attempt} {cf : Nat} (hne : 0 < view.length) (hheader : headerRef view = .body a)
      (hbody : bodyRef view a = .fail cf) : AttemptEnd view (view.drop (cf + 3), .decodeFail, none)

section
variable {view : List Byte}

section
variable {fi : Nat} (hflag : findFlag view 0 = some fi) (hlen : frameStartRef view fi + 14 ≤ view.length)
  {left : List Byte} {oc : ParseOutcome}
include hflag hlen

theorem attemptEnd_of_frameCheckRef {dlen : Nat} {a : Attempt}
    (h : frameCheckRef view (frameStartRef view fi) dlen a = .ended left oc) : AttemptEnd view (left, oc, none) := by
  unfold frameCheckRef at h
  split at h
  · cases h
    exact .resync rfl hflag hlen
  · split at h
    · cases h
      exact .outOfBounds (by omega)
    · split at h
      · cases h
        exact .resync rfl hflag hlen
      · cases h

theorem attemptEnd_of_headerCheckRef {dlen : Nat} {a : Attempt}
    (h : headerCheckRef view (frameStartRef view fi) dlen a = .ended left oc) : AttemptEnd view (left, oc, none) := by
  unfold headerCheckRef at h
  split at h
  · cases h
    exact .outOfBounds (by omega)
  · split at h
    · cases h
      exact .resync rfl hflag hlen
    · exact attemptEnd_of_frameCheckRef hflag hlen h

theorem attemptEnd_of_linkHeaderRef {fmt dlen c : Nat} {seg : Bool}
    (h : linkHeaderRef view (frameStartRef view fi) fmt seg dlen c = .ended left oc) :
    AttemptEnd view (left, oc, none) := by
  by_cases hcomplete : frameStartRef view fi + dlen < view.length
  · rw [linkHeaderRef_of_complete hcomplete] at h
    split at h
    · exact attemptEnd_of_headerCheckRef hflag hlen h
    · cases h
      exact .outOfBounds (by omega)
  · rw [linkHeaderRef_of_incomplete hcomplete] at h
    cases h
    exact .insufficient rfl

theorem attemptEnd_of_frameRef (h : frameRef view (frameStartRef view fi) = .ended left oc) :
    AttemptEnd view (left, oc, none) := by
  unfold frameRef at h
  split at h
  · cases h
    exact .resync rfl hflag hlen
  · exact attemptEnd_of_linkHeaderRef hflag hlen h
  · cases h
    exact .outOfBounds (by omega)

end

theorem attemptEnd_of_headerRef {left : List Byte} {oc : ParseOutcome} (h : headerRef view = .ended left oc) :
    AttemptEnd view (left, oc, none) := by
  cases hflag : findFlag view 0 with
  | none =>
    rw [headerRef_of_noFlag hflag] at h
    cases h
    exact .insufficient rfl
  | some fi =>
    by_cases hlen : view.length < frameStartRef view fi + 14
    · rw [headerRef_of_shortFrame hflag hlen] at h
      cases h
      exact .insufficient rfl
    · have hge : frameStartRef view fi + 14 ≤ view.length := Nat.not_lt.mp hlen
      rw [headerRef_of_frame hflag hge] at h
      exact attemptEnd_of_frameRef hflag hge h

/-- A header that is read in full stands in the buffer. -/
theorem length_pos_of_body {a : Attempt} (h : headerRef view = .body a) : 0 < view.length := by
  cases view with
  | nil => cases h
  | cons b view => exact Nat.zero_lt_succ _

theorem attemptEnd_attemptRef (view : List Byte) : AttemptEnd view (attemptRef view) := by
  cases hheader : headerRef view with
  | ended left oc =>
    rw [attemptRef_of_ended hheader]
    exact attemptEnd_of_headerRef hheader
  | body a =>
    have hne : 0 < view.length := length_pos_of_body hheader
    cases hbody : bodyRef view a with
    | ok v cf =>
      rw [attemptRef_of_ok hheader hbody]
      exact .recordOk hne hheader hbody
    | fail cf =>
      rw [attemptRef_of_fail hheader hbody]
      exact .decodeFail hne hheader hbody
    | oob =>
      rw [attemptRef_of_oob hheader hbody]
      exact .outOfBounds hne

end

/-! ### The start of a frame -/

/-- What follows the longest run of a kind is not of that kind. -/
theorem getElem?_length_takeWhile {α : Type} {p : α → Bool} {l : List α} {x : α}
    (h : l[(l.takeWhile p).length]? = some x) : p x = false := by
  induction l with
  | nil => cases h
  | cons y l ih =>
    rw [List.takeWhile_cons] at h
    split at h
    · exact ih h
    · next hy =>
      cases h
      exact Bool.eq_false_iff.mpr hy

/-- R230: the flag behind bytes that are none is the first. -/
theorem findFlag_append {garbage : List Byte} (h : Config.params.flag ∉ garbage) (rest : List Byte) :
    findFlag (garbage ++ Config.params.flag :: rest) 0 = some garbage.length := by
  refine findFlag_of_first (Nat.zero_le _) (by simp) fun j _ hj => ?_
  rw [List.getElem?_append_left hj]
  exact fun hflag => h (List.mem_of_getElem? hflag)

/-- R231, R232: the byte at the frame's start is no flag. -/
theorem frameStart_ne_flag {view : List Byte} {fi : Nat} (hlen : frameStartRef view fi < view.length) :
    ∃ b, view[frameStartRef view fi]? = some b ∧ b ≠ Config.params.flag := by
  have hget : view[frameStartRef view fi]? = some view[frameStartRef view fi] := List.getElem?_eq_getElem hlen
  refine ⟨_, hget, ne_of_beq_false ?_⟩
  unfold frameStartRef at hget
  rw [← List.getElem?_drop] at hget
  exact getElem?_length_takeWhile (p := fun b => b == Config.params.flag) hget

/-! ### The classes of the outcome codes -/

theorem ParseOutcome.code_of_insufficient {oc : ParseOutcome} (h : oc.insufficient = true) :
    (oc.code = 2#4 ∨ oc.code = 3#4 ∨ oc.code = 4#4) ∧ ¬ (oc.code = 5#4 ∨ oc.code = 6#4 ∨ oc.code = 7#4) ∧
      ¬ (oc.code = 1#4 ∨ oc.code = 8#4) ∧ oc.code ≠ 9#4 := by
  revert h
  cases oc <;> decide

theorem ParseOutcome.code_of_resync {oc : ParseOutcome} (h : oc.resync = true) :
    ¬ (oc.code = 2#4 ∨ oc.code = 3#4 ∨ oc.code = 4#4) ∧ ¬ (oc.code = 1#4 ∨ oc.code = 8#4) ∧ oc.code ≠ 9#4 := by
  revert h
  cases oc <;> decide

/-! ### The obligations -/

/-- Settles O12: the ways an attempt ends, one for each class of outcome. -/
theorem pushBufferByOutcome : Obligations.PushBufferByOutcome := by
  intro s t chunk ht view
  have hend := eq_endRef_of_execPush ht
  have hbuf : t.buf = Memory.ofBytes (attemptRef view).1 := by rw [hend, State.endRef_buf]
  have hstatus : t.status = (attemptRef view).2.1.code := by rw [hend, State.endRef_status]
  have hsize : t.buf.size = (attemptRef view).1.length := by rw [hbuf, Memory.size_ofBytes]
  have hway := attemptEnd_attemptRef view
  have htrim : ∀ cf,
      Memory.ofBytes (view.drop (cf + 3)) = Memory.commitTrim Config.params.trimSkip (s.buf.receive chunk) cf :=
    fun cf => (Memory.commitTrim_eq _ _ _).symm
  rw [hsize, hbuf, hstatus]
  generalize attemptRef view = r at hway
  cases hway with
  | insufficient h =>
    obtain ⟨hin, hre, hdec, hoob⟩ := ParseOutcome.code_of_insufficient h
    exact ⟨fun _ => rfl, fun h => absurd h hre, fun h => absurd h hdec, fun h => absurd h hoob, fun h => absurd hin h⟩
  | @resync oc fi h hflag hlen =>
    obtain ⟨hin, hdec, hoob⟩ := ParseOutcome.code_of_resync h
    refine ⟨fun h => absurd h hin, fun _ => ⟨fi, hflag, frameStart_ne_flag (by omega), rfl⟩, fun h => absurd h hdec,
      fun h => absurd h hoob, fun _ => ?_⟩
    have hstart : 0 < frameStartRef view fi := by
      rw [frameStartRef]
      omega
    rw [List.length_drop]
    omega
  | outOfBounds hne => exact ⟨nofun, nofun, nofun, fun _ => rfl, fun _ => hne⟩
  | @recordOk a dt payload cf hne hheader hbody =>
    refine ⟨nofun, nofun, fun _ => ⟨a, cf, hheader, fun _ => ⟨dt, payload, hbody⟩, nofun, htrim cf, rfl⟩, nofun, fun _ => ?_⟩
    rw [List.length_drop]
    omega
  | @decodeFail a cf hne hheader hbody =>
    refine ⟨nofun, nofun, fun _ => ⟨a, cf, hheader, nofun, fun _ => hbody, htrim cf, rfl⟩, nofun, fun _ => ?_⟩
    rw [List.length_drop]
    omega

/-- Settles O14: both PUSHes end as the attempt on the one buffer that receives the chunk. -/
theorem attemptDependsOnBufferAlone : Obligations.AttemptDependsOnBufferAlone := by
  intro s s' t t' chunk hbuf ht ht'
  have hend := eq_endRef_of_execPush ht
  have hend' := eq_endRef_of_execPush ht'
  rw [← hbuf] at hend'
  rw [hend, hend', State.endRef_buf, State.endRef_buf, State.endRef_status, State.endRef_status]
  refine ⟨rfl, rfl, fun h => ?_⟩
  have hway := attemptEnd_attemptRef (s.buf.receive chunk).bytes
  generalize attemptRef (s.buf.receive chunk).bytes = r at hway h
  cases hway with
  | insufficient hin => exact absurd (.inl h) (ParseOutcome.code_of_insufficient hin).2.2.1
  | resync hre => exact absurd (.inl h) (ParseOutcome.code_of_resync hre).2.1
  | outOfBounds => cases h
  | recordOk => rfl
  | decodeFail => cases h

/-- Settles O15: insufficient data leaves the bytes received, and the second PUSH ends as the attempt on all of them. -/
theorem splitPushesCompose : Obligations.SplitPushesCompose := by
  intro s t first second hfits ht hstatus
  obtain ⟨hs, _⟩ := idle_and_fits_of_execPush ht
  obtain ⟨oc, _, rfl⟩ := (ending_of_execPush ht).insufficient_of_status hstatus
  have hboth : (s.buf.receive first).receive second = s.buf.receive (first ++ second) :=
    Memory.receive_receive_of_fits hfits
  have hbegin : ((s.beginPush first).endInsufficient oc).beginPush second =
      { s.beginPush (first ++ second) with status := oc.code } := by
    simp only [State.beginPush, ← hboth]
    rfl
  have hlen : (first ++ second).length ≤ 2048 := by
    rw [List.length_append]
    omega
  rw [pushRefinesPseudocode _ second rfl (by omega), pushRefinesPseudocode s (first ++ second) hs hlen, pushRef_eq rfl,
    pushRef_eq hs, hbegin, State.endRef_with_status, ← hboth]
  rfl

/-- Settles O16: the declared length needs one byte more than the buffer holds behind a flag. -/
theorem frameOf2047NeverParses : Obligations.FrameOf2047NeverParses := by
  intro s garbage rest extra b1 b2 hs hempty hgarbage hlo hhi hdlen hrest view hview
  have hsplit : view =
      (garbage ++ [Config.params.flag]) ++ (List.replicate extra Config.params.flag ++ b1 :: b2 :: rest) := by
    show garbage ++ (List.replicate (extra + 1) Config.params.flag) ++ b1 :: b2 :: rest = _
    rw [List.replicate_succ]
    simp only [List.append_assoc, List.cons_append, List.nil_append]
  have hlen : view.length = garbage.length + 1 + extra + 2 + rest.length := by
    rw [hsplit]
    simp only [List.length_append, List.length_cons, List.length_nil, List.length_replicate]
    omega
  have hflag : findFlag view 0 = some garbage.length := by
    rw [hsplit, List.append_assoc]
    exact findFlag_append hgarbage _
  have hdrop : view.drop (garbage.length + 1) = List.replicate extra Config.params.flag ++ b1 :: b2 :: rest := by
    rw [hsplit]
    exact List.drop_left' (by simp)
  have hstart : frameStartRef view garbage.length = garbage.length + 1 + extra := by
    have hb1 : (b1 :: b2 :: rest).head? ≠ some Config.params.flag := by
      rintro ⟨⟩
      exact absurd hlo (by decide)
    rw [frameStartRef, hdrop, length_takeWhile_flag extra hb1]
  have hget : ∀ k, view[garbage.length + 1 + extra + k]? = (b1 :: b2 :: rest)[k]? := by
    intro k
    rw [Nat.add_assoc (garbage.length + 1), ← List.getElem?_drop, hdrop, List.getElem?_append_right (by simp)]
    simp
  have hheader : headerRef view = .ended view .insuffIncomplete := by
    have hb1 : view[garbage.length + 1 + extra]? = some b1 := hget 0
    rw [headerRef_of_frame hflag (by omega), hstart, frameRef_of_extended hb1 ⟨hlo, hhi⟩ (b2 := b2) (hget 1),
      linkHeaderRef_of_incomplete (by omega)]
  rw [pushRefinesPseudocode s view hs hview, pushRef_eq hs, hempty, Memory.receive_nil hview, Memory.bytes_ofBytes,
    attemptRef_of_ended hheader]
  cases s
  cases hs
  rfl

end Sys2Proof.Machine
end
